-- ==== Sys2Proof/Word.lean ====
section
/-! DEFINITION. The machine's words: the byte, the register port's value, and the two small records the memories
hold (a colour and a terrain cell). Bit 0 of every value is the least significant one (R8). -/
namespace Sys2Proof

/-- A byte: an unsigned integer 0..255 (R9). -/
abbrev Byte := BitVec 8

/-- A value of the register port, and a command word: 32 bits (R49, R90). -/
abbrev Word := BitVec 32

/-- A colour is a triple (r, g, b) of bytes (R11, R106). -/
structure Colour where
  r : Byte
  g : Byte
  b : Byte
deriving DecidableEq, Repr, Inhabited

/-- A cell of the terrain grid memory TG: base tile index, overlay tile index, alpha byte (R43, R105). -/
structure TerrainCell where
  base : Byte
  overlay : Byte
  alpha : Byte
deriving DecidableEq, Repr, Inhabited

end Sys2Proof
end

