-- ==== Sys2Proof/Config.lean ====
section
/-! DEFINITION. What one SXD fixes (the parameters of R6 at the default the spec gives each, and the literals of R7)
and the free values: opaque constants with no body, of which nothing can be proved but that they depend on their
arguments alone. -/
namespace Sys2Proof.Config

/-- The two roundings that parameter `BLEND_ROUND` ranges over (R6, R219). -/
inductive BlendRound
  | floor
  | nearest
deriving DecidableEq, Repr

/-! ## Parameters of R6, each at the spec's default (log entry 1: DESIGN CHOICE) -/

/-- `N_MAX`: the largest grid dimension the grid memories hold. -/
def nMax : Nat := 256
/-- `R_MAX`: the largest tile pixel resolution. -/
def rMax : Nat := 64
/-- `BUF_CAP`: the byte capacity of BUF. -/
def bufCap : Nat := 262144
/-- `FB_SIDE_MAX`: the largest framebuffer side in pixels. -/
def fbSideMax : Nat := 16384
/-- `BLEND_ROUND`. -/
def blendRound : BlendRound := .floor
/-- `ATT_LOW_OFF`: offset of the low-order byte inside a word-layout attribute cell (little-endian). -/
def attLowOff : Nat := 0
/-- `PLACEHOLDER`: flat magenta. -/
def placeholder : Colour := ⟨255, 0, 255⟩

/-! ## Reset values that SRC gives (R271) -/

/-- The cipher's initial key 0x5E (R7, R32): also what DINIT and DECRYPT load. -/
def keyInit : Byte := 0x5E
/-- N after reset (R26). -/
def nReset : BitVec 16 := 256
/-- REPEAT after reset (R30). -/
def repeatReset : BitVec 16 := 64

/-! ## Free values -/

/-- `SIN_FN : ℚ → ℚ`, the sine of the water wave: OPEN, a function of its argument and nothing else (R185, U1;
log entry 2). -/
opaque sinFn : Rat → Rat

/-- What BUF address `addr` reads as in operation number `draw` when nothing has written it since reset (R42, R271,
U4; log entry 3). -/
opaque unspecByte (draw addr : Nat) : Byte
/-- What cell `idx` of TG reads as in operation number `draw` outside the valid cells (R43, U4; log entry 3). -/
opaque unspecCell (draw idx : Nat) : TerrainCell
/-- What cell `idx` of AG reads as in operation number `draw` outside the valid cells (R43, U4; log entry 3). -/
opaque unspecAttr (draw idx : Nat) : Byte
/-- What pixel (`row`, `col`) of FB reads as in operation number `draw` outside the last frame (R45, R222, U5; log
entry 3). -/
opaque unspecPixel (draw row col : Nat) : Colour
/-- The resolver's answer, in operation number `draw`, for a texel that the asset of tile `tile` in State does not
write out (R44; log entry 4). -/
opaque unspecTexel (draw : Nat) (tile : Byte) (x y : Nat) : Colour

end Sys2Proof.Config
end

