-- ==== Sys2Proof/Machine/Port.lean ====
section
/-! DEFINITION. The outside world's side of SXD: the names of the 32 registers (R21), the operations a host can issue
on the ports (R61, R121, R122, R97), the environment's texture loads (R44, R80), the reset input (R270), and what a
read answers. -/
namespace Sys2Proof.Machine

/-- The 32 named registers of R21, in the order of their numbers. -/
inductive Reg
  | cmd | status | len | n | r | timeMs | ctrl | repeatSpan
  | x0 | y0 | nvis | key | pos | sdata | sTile | sPx
  | sPy | sWx | sWy | sSym | sRgb | fbSide | tgN | agN
  /-- WMASK0 to WMASK7, numbers 0x18 to 0x1F. -/
  | wmask (k : Fin 8)
deriving DecidableEq, Repr

/-- One asset of the texture store TEX (R44): width and height in texels and the colours, row by row from row 0, each
row from column 0. A texel that the list is too short to name is a free value (log entry 4). -/
structure TileAsset where
  width : BitVec 16
  height : BitVec 16
  texels : List Colour
deriving DecidableEq, Repr

/-- One thing the outside world does to SXD. Each is one atomic step (R75). -/
inductive HostOp
  /-- `WR reg, value` with the register's number (R121). -/
  | wr (reg : Byte) (value : Word)
  /-- `RD reg` (R122). -/
  | rd (reg : Byte)
  /-- `BUFW(a, v)` (R61). -/
  | bufW (a : Nat) (v : Byte)
  /-- `BUFR(a)` (R61). -/
  | bufR (a : Nat)
  /-- `TGR(i)` (R61). -/
  | tgR (i : Nat)
  /-- `AGR(i)` (R61). -/
  | agR (i : Nat)
  /-- `FBR(row, col)` (R61). -/
  | fbR (row col : Nat)
  /-- The environment puts an asset into TEX, between commands (R44, R80). -/
  | texLoad (tile : Byte) (asset : TileAsset)
  /-- The environment takes a tile's asset out of TEX, between commands (R44). -/
  | texUnload (tile : Byte)
  /-- The reset input is asserted (R270). -/
  | assertReset
  /-- The reset input is released (R270). -/
  | releaseReset
deriving DecidableEq, Repr

/-- What a port read answers. -/
inductive Reply
  /-- `RD`: the register zero-extended to 32 bits (R122). -/
  | word (v : Word)
  /-- `BUFR` and `AGR`: one byte. -/
  | byte (v : Byte)
  /-- `TGR`: the three bytes of a terrain cell. -/
  | cell (c : TerrainCell)
  /-- `FBR`: a pixel. -/
  | pixel (c : Colour)
deriving DecidableEq, Repr

end Sys2Proof.Machine
end

