-- ==== Sys2Proof/Syntax.lean ====
section
/-! DEFINITION. The nine commands of SXD (R92), one constructor per row of spec/opcode_table.json. No command has an
operand field, a mode field or an immediate (R90, R94): each takes its operands from fixed named registers (R95). -/
namespace Sys2Proof

/-- A command of R92. -/
inductive Instr
  /-- 0x00 NOP (R124). -/
  | nop
  /-- 0x01 DINIT: start an independent stream (R142). -/
  | dinit
  /-- 0x02 DSTEP: decrypt one stream byte (R143). -/
  | dstep
  /-- 0x03 DECRYPT: decrypt the whole buffer in place (R144). -/
  | decrypt
  /-- 0x04 DEOBF: apply the 3-byte XOR pass to the buffer in place (R147). -/
  | deobf
  /-- 0x05 DECMAP: decode a terrain map buffer (R162). -/
  | decmap
  /-- 0x06 DECATT: decode an attribute buffer (R168). -/
  | decatt
  /-- 0x07 SAMPLE: sample one texture (R191). -/
  | sample
  /-- 0x08 RENDER: composite a square region of cells into the framebuffer (R210). -/
  | render
deriving DecidableEq, Repr

end Sys2Proof
end

