-- ==== Sys2Proof/WellFormed.lean ====
section
/-! DEFINITION. Which terms are well formed. A command has no fields, so every command is (R90, R94). A port operation
must name an address inside its space (R60, R61): one outside it is no part of the interface, and the step refuses it
(93 U7). -/
namespace Sys2Proof

/-- Every command is well formed: none has a field that could hold an illegal value (R94). -/
def Instr.wellFormed : Instr → Bool
  | .nop => true
  | .dinit => true
  | .dstep => true
  | .decrypt => true
  | .deobf => true
  | .decmap => true
  | .decatt => true
  | .sample => true
  | .render => true

namespace Machine

/-- BUF has the addresses 0..`BUF_CAP` − 1 (R60). -/
def bufInRange (a : Nat) : Bool := decide (a < Config.bufCap)

/-- TG and AG have the cells 0..`N_MAX`² − 1 (R60). -/
def cellInRange (i : Nat) : Bool := decide (i < Config.nMax * Config.nMax)

/-- FB has the rows and columns 0..`FB_SIDE_MAX` − 1 (R60). -/
def pixelInRange (row col : Nat) : Bool := decide (row < Config.fbSideMax) && decide (col < Config.fbSideMax)

/-- A port operation's address lies in its space. Register numbers are bytes and all 256 are legal (R49). -/
def HostOp.wellFormed : HostOp → Bool
  | .wr _ _ => true
  | .rd _ => true
  | .bufW a _ => bufInRange a
  | .bufR a => bufInRange a
  | .tgR i => cellInRange i
  | .agR i => cellInRange i
  | .fbR row col => pixelInRange row col
  | .texLoad _ _ => true
  | .texUnload _ => true
  | .assertReset => true
  | .releaseReset => true

end Machine

end Sys2Proof
end

