-- ==== Sys2Proof/Decode.lean ====
section
/-! DEFINITION. The decoder of R91, total on all 2^32 command words and rejecting by name, and after it the encoder,
written from the opcode map of R92. -/
namespace Sys2Proof

/-- Why a word is no command (R91, R93). Both kinds run as IllegalCommand (R244). -/
inductive DecodeReject
  /-- Bits 31:8 are not all 0. -/
  | reservedBits
  /-- OP (bits 7:0) is in 0x09..0xFF. -/
  | noSuchOpcode
deriving DecidableEq, Repr

/-- The field OP, bits 7:0 (R90). -/
def opField (w : Word) : BitVec 8 := w.extractLsb' 0 8

/-- The field RSV, bits 31:8, which must be 0 (R90). -/
def rsvField (w : Word) : BitVec 24 := w.extractLsb' 8 24

/-- The row of R92 whose OP this is. -/
def decodeOp (op : BitVec 8) : Except DecodeReject Instr :=
  match op.toNat with
  | 0x00 => .ok .nop
  | 0x01 => .ok .dinit
  | 0x02 => .ok .dstep
  | 0x03 => .ok .decrypt
  | 0x04 => .ok .deobf
  | 0x05 => .ok .decmap
  | 0x06 => .ok .decatt
  | 0x07 => .ok .sample
  | 0x08 => .ok .render
  | _ => .error .noSuchOpcode

/-- Decoding a command word (R91). -/
def decodeWord (w : Word) : Except DecodeReject Instr :=
  if rsvField w = 0 then decodeOp (opField w) else .error .reservedBits

/-- The command word of a command: column `match` of R92. -/
def encode : Instr → Word
  | .nop => 0x00000000
  | .dinit => 0x00000001
  | .dstep => 0x00000002
  | .decrypt => 0x00000003
  | .deobf => 0x00000004
  | .decmap => 0x00000005
  | .decatt => 0x00000006
  | .sample => 0x00000007
  | .render => 0x00000008

/-- The command that the decoder reads from the `nbits` low bits of `w`, numbered as spec/opcode_table.json numbers
them; every bit above `nbits` is 0. A command word is one 32-bit number with no byte addresses (R68(c), R90). -/
def decodeTableWord (nbits w : Nat) : Option Instr :=
  let bits := w % 2 ^ nbits
  if bits < 2 ^ 32 then
    match decodeWord (BitVec.ofNat 32 bits) with
    | .ok i => some i
    | .error _ => none
  else none

end Sys2Proof
end

