-- ==== Sys2Proof/Machine/Flags.lean ====
section
/-! DEFINITION. STATUS, the only flags SXD has (R23), and the error codes that its field ERR takes (R240). STATUS is
one 32-bit register read whole, so it stays a bit vector; each field has an accessor and a function that writes it and
leaves every other bit alone. -/
namespace Sys2Proof.Machine

/-- The errors of R240, and `none` for a command that completed. -/
inductive ErrCode
  | none
  | tooSmall
  | badAttLayout
  | illegalCommand
  | badConfig
  | noGrid
deriving DecidableEq, Repr

/-- The number of an error in STATUS.ERR (R240). Codes 6 to 15 are never produced. -/
def ErrCode.code : ErrCode → BitVec 4
  | .none => 0
  | .tooSmall => 1
  | .badAttLayout => 2
  | .illegalCommand => 3
  | .badConfig => 4
  | .noGrid => 5

namespace Status

/-- Bit 0: TG holds a grid that a DECMAP decoded (R23). -/
def tgValid (w : BitVec 32) : Bool := w.getLsbD 0
/-- Bit 1: AG holds a grid that a DECATT decoded (R23). -/
def agValid (w : BitVec 32) : Bool := w.getLsbD 1
/-- Bit 2: the last SAMPLE or RENDER sampled at least one missing tile (R23). -/
def miss (w : BitVec 32) : Bool := w.getLsbD 2
/-- Bit 3: a command has failed since reset (R23). -/
def esticky (w : BitVec 32) : Bool := w.getLsbD 3
/-- Bits 7:4: the last command's error code (R23, R240). -/
def err (w : BitVec 32) : BitVec 4 := w.extractLsb' 4 4
/-- Bits 31:8, which always read 0 (R23). -/
def reserved (w : BitVec 32) : BitVec 24 := w.extractLsb' 8 24

/-- Write one bit of a word. -/
def withBit (i : Nat) (b : Bool) (w : BitVec 32) : BitVec 32 :=
  if b then w ||| (1#32 <<< i) else w &&& ~~~(1#32 <<< i)

/-- TG_VALID <- 1. -/
def setTgValid (w : BitVec 32) : BitVec 32 := withBit 0 true w
/-- AG_VALID <- 1. -/
def setAgValid (w : BitVec 32) : BitVec 32 := withBit 1 true w
/-- MISS <- b. -/
def withMiss (b : Bool) (w : BitVec 32) : BitVec 32 := withBit 2 b w
/-- ESTICKY <- 1. -/
def setSticky (w : BitVec 32) : BitVec 32 := withBit 3 true w
/-- ERR <- e. -/
def withErr (e : ErrCode) (w : BitVec 32) : BitVec 32 := (w &&& ~~~(0xF0#32)) ||| (e.code.setWidth 32 <<< 4)

end Status

end Sys2Proof.Machine
end

