-- ==== Sys2Proof/Machine/State.lean ====
section
/-! DEFINITION. Everything the spec gives the machine, as plain data: the 31 registers that hold a value (R21; CMD
holds none, R24), the four memories (R42, R43, R45), the texture store the environment fills (R44), the reset input
(R270), the host's pending operations and what its reads were answered (R61, R97), and the model's own counter of free
values. -/
namespace Sys2Proof.Machine

/-- Why the machine stops with a fault: never. Every error of SXD is a code in STATUS after which the host goes on
(R240, R250), so no step raises a fault and the type has no constructor. Safe. -/
inductive Fault
deriving DecidableEq, Repr

/-- Why a step is given no meaning. Every constructor but the first is raised by the port operations of
Machine/HostPort.lean alone; no command raises one. -/
inductive Refusal
  /-- Raised by an arm of `exec` whose command has no meaning yet: none has this now. Safe. -/
  | notModelled (mnemonic : String)
  /-- Raised by BUFW and BUFR with an address ≥ `BUF_CAP`, which is no part of the interface (R61, U7). Safe. -/
  | bufAddressOutOfRange
  /-- Raised by TGR with an index ≥ `N_MAX`² (R61, U7). Safe. -/
  | tgCellOutOfRange
  /-- Raised by AGR with an index ≥ `N_MAX`² (R61, U7). Safe. -/
  | agCellOutOfRange
  /-- Raised by FBR with a row or a column ≥ `FB_SIDE_MAX` (R61, U7). Safe. -/
  | fbPixelOutOfRange
deriving DecidableEq, Repr

/-- A memory: address and content, addresses strictly rising (`Memory.wf`). An address that is not listed has not
been written since its content was last made unspecified; it has no value of its own, and a read of it is a free value
(U4, U5; log entry 3). -/
abbrev Memory (α : Type) := List (Nat × α)

/-- The canonical form: addresses strictly rising. No entry can equal what an unlisted address reads as, because an
unlisted address reads as no fixed value; so an address is listed exactly when it was written. -/
abbrev Memory.wf {α : Type} (m : Memory α) : Prop := m.Pairwise (fun p q => p.1 < q.1)

/-- The state of SXD and of what stands around it. Registers in the order of their numbers (R21). -/
structure State where
  /-- 0x01 STATUS: flags and error code; fields in Machine/Flags.lean (R23). -/
  status : BitVec 32
  /-- 0x02 LEN: number of valid bytes in BUF (R25). -/
  len : BitVec 32
  /-- 0x03 N: grid dimension (R26). -/
  n : BitVec 16
  /-- 0x04 R: tile pixel resolution (R27). -/
  r : BitVec 16
  /-- 0x05 TIME_MS: elapsed time in milliseconds (R28). -/
  timeMs : BitVec 32
  /-- 0x06 CTRL: bit 0 is SYM_EN (R29). -/
  ctrl : BitVec 32
  /-- 0x07 REPEAT: texels of one cell span (R30). -/
  repeatSpan : BitVec 16
  /-- 0x08 X0: first column of the render region (R31). -/
  x0 : BitVec 16
  /-- 0x09 Y0: first row of the render region (R31). -/
  y0 : BitVec 16
  /-- 0x0A NVIS: cells per side of the render region (R31). -/
  nvis : BitVec 16
  /-- 0x0B KEY: the cipher's rolling key (R32). -/
  key : BitVec 8
  /-- 0x0C POS: bytes processed since the last initialisation, modulo 2^32 (R33). -/
  pos : BitVec 32
  /-- 0x0D SDATA: stream data byte, in and out (R34). -/
  sdata : BitVec 8
  /-- 0x0E S_TILE: SAMPLE's tile index (R35). -/
  sTile : BitVec 8
  /-- 0x0F S_PX: SAMPLE's sub-tile pixel column (R35). -/
  sPx : BitVec 16
  /-- 0x10 S_PY: SAMPLE's sub-tile pixel row (R35). -/
  sPy : BitVec 16
  /-- 0x11 S_WX: SAMPLE's cell column (R35). -/
  sWx : BitVec 16
  /-- 0x12 S_WY: SAMPLE's cell row (R35). -/
  sWy : BitVec 16
  /-- 0x13 S_SYM: SAMPLE's symmetry code (R35). -/
  sSym : BitVec 3
  /-- 0x14 S_RGB: SAMPLE's result, r in bits 23:16, g in 15:8, b in 7:0 (R36). -/
  sRgb : BitVec 24
  /-- 0x15 FB_SIDE: side in pixels of the frame last rendered (R37). -/
  fbSide : BitVec 32
  /-- 0x16 TG_N: the N with which TG was decoded, 0 for none (R38). -/
  tgN : BitVec 16
  /-- 0x17 AG_N: the N with which AG was decoded, 0 for none (R38). -/
  agN : BitVec 16
  /-- 0x18 to 0x1F WMASK0 to WMASK7: the water mask (R39). -/
  wmask : Vector (BitVec 32) 8
  /-- BUF: the work buffer, one byte an address (R42). -/
  buf : Memory Byte
  /-- TG: the terrain grid memory, by linear cell index (R43, R66). -/
  tg : Memory TerrainCell
  /-- AG: the attribute grid memory, by linear cell index (R43, R66). -/
  ag : Memory Byte
  /-- FB: the framebuffer; pixel (row, col) stands at `row * FB_SIDE_MAX + col` (R45). -/
  fb : Memory Colour
  /-- TEX: the environment's texture store, by tile index; a tile that is not listed is absent (R44). -/
  tex : Memory TileAsset
  /-- The reset input is asserted (R270). -/
  inReset : Bool
  /-- The operations that the outside world will perform next, first one first (R97, R75). -/
  ops : List HostOp
  /-- What the host's reads were answered, oldest first. -/
  replies : List Reply
  /-- The model's own: how many operations have been performed, the argument that keeps the free values of one
  operation apart from those of another (log entry 3). -/
  draws : Nat
deriving DecidableEq, Repr

/-- The machine right after reset (R271): memories hold nothing that was written, no host operation is pending. TEX,
`ops`, `replies` and `draws` are not SXD's, and R271 gives them no value: they start empty (log entries 5 and 6). -/
def State.reset : State where
  status := 0
  len := 0
  n := Config.nReset
  r := 0
  timeMs := 0
  ctrl := 0
  repeatSpan := Config.repeatReset
  x0 := 0
  y0 := 0
  nvis := 0
  key := Config.keyInit
  pos := 0
  sdata := 0
  sTile := 0
  sPx := 0
  sPy := 0
  sWx := 0
  sWy := 0
  sSym := 0
  sRgb := 0
  fbSide := 0
  tgN := 0
  agN := 0
  wmask := Vector.replicate 8 0
  buf := []
  tg := []
  ag := []
  fb := []
  tex := []
  inReset := false
  ops := []
  replies := []
  draws := 0

end Sys2Proof.Machine
end

