-- ==== Sys2Proof/Machine/Ops.lean ====
section
/-! DEFINITION. The named operations every command and port operation is made of: the memories, the registers by name,
the state's updates, and how a command ends, with an error or without (R120, R241). -/
namespace Sys2Proof.Machine

/-! ## Memories -/

/-- The content written at an address, if any. -/
def Memory.lookup {α : Type} : Memory α → Nat → Option α
  | [], _ => none
  | (k, v) :: m, a => if k = a then some v else Memory.lookup m a

/-- The entries of a run of contents at consecutive addresses from `base` on. -/
def Memory.block {α : Type} (base : Nat) : List α → Memory α
  | [] => []
  | v :: vs => (base, v) :: Memory.block (base + 1) vs

/-- Write the contents `vs` at the addresses `base`, `base + 1`, …; every other address keeps what it had. -/
def Memory.writeBlock {α : Type} (m : Memory α) (base : Nat) (vs : List α) : Memory α :=
  m.filter (fun p => decide (p.1 < base)) ++ Memory.block base vs
    ++ m.filter (fun p => decide (base + vs.length ≤ p.1))

/-- Write one address. -/
def Memory.write {α : Type} (m : Memory α) (a : Nat) (v : α) : Memory α := Memory.writeBlock m a [v]

/-- Make an address unlisted. -/
def Memory.erase {α : Type} (m : Memory α) (a : Nat) : Memory α := m.filter (fun p => decide (p.1 ≠ a))

/-! ## Reading the address spaces (R10, R60). Each read is total: where the content is unspecified it is a free value
that the number of the operation and the address select (U4, U5). -/

/-- `BUF[a]`. -/
def bufRead (s : State) (a : Nat) : Byte := (Memory.lookup s.buf a).getD (Config.unspecByte s.draws a)

/-- `(TG.base[i], TG.overlay[i], TG.alpha[i])`: cells 0..TG_N² − 1 are valid, the others unspecified (R43). -/
def tgRead (s : State) (i : Nat) : TerrainCell :=
  if i < s.tgN.toNat * s.tgN.toNat then (Memory.lookup s.tg i).getD (Config.unspecCell s.draws i)
  else Config.unspecCell s.draws i

/-- `AG.attr[i]`: cells 0..AG_N² − 1 are valid, the others unspecified (R43). -/
def agRead (s : State) (i : Nat) : Byte :=
  if i < s.agN.toNat * s.agN.toNat then (Memory.lookup s.ag i).getD (Config.unspecAttr s.draws i)
  else Config.unspecAttr s.draws i

/-- Where pixel (row, col) stands in the framebuffer (R45, R60). -/
def fbAddr (row col : Nat) : Nat := row * Config.fbSideMax + col

/-- `FB[row][col]`. -/
def fbRead (s : State) (row col : Nat) : Colour :=
  (Memory.lookup s.fb (fbAddr row col)).getD (Config.unspecPixel s.draws row col)

/-- The asset the resolver has for tile `t`: `TexPresent(t)`, and with it `TexW(t)` and `TexH(t)` (R44). -/
def texAsset (s : State) (t : Byte) : Option TileAsset := Memory.lookup s.tex t.toNat

/-- `TexPix(t, x, y)`, texel column `x`, row `y` (R44). -/
def texPix (s : State) (t : Byte) (asset : TileAsset) (x y : Nat) : Colour :=
  (asset.texels[y * asset.width.toNat + x]?).getD (Config.unspecTexel s.draws t x y)

/-! ## Updates of the state, one home each -/

/-- STATUS <- w. -/
def State.setStatus (s : State) (w : BitVec 32) : State := { s with status := w }
/-- KEY <- k, POS <- p (R141). -/
def State.setCipher (s : State) (k : Byte) (p : BitVec 32) : State := { s with key := k, pos := p }
/-- SDATA <- v. -/
def State.setSdata (s : State) (v : Byte) : State := { s with sdata := v }
/-- BUF <- m. -/
def State.setBuf (s : State) (m : Memory Byte) : State := { s with buf := m }
/-- TG <- m, TG_N <- n (R162). -/
def State.setTerrain (s : State) (m : Memory TerrainCell) (n : BitVec 16) : State := { s with tg := m, tgN := n }
/-- AG <- m, AG_N <- n (R168). -/
def State.setAttributes (s : State) (m : Memory Byte) (n : BitVec 16) : State := { s with ag := m, agN := n }
/-- S_RGB <- c, r in bits 23:16, g in 15:8, b in 7:0 (R36, R106). -/
def State.setSample (s : State) (c : Colour) : State := { s with sRgb := c.r ++ c.g ++ c.b }
/-- FB <- m, FB_SIDE <- side (R210). -/
def State.setFrame (s : State) (m : Memory Colour) (side : BitVec 32) : State := { s with fb := m, fbSide := side }
/-- TEX <- m: the environment's move (R44). -/
def State.setTex (s : State) (m : Memory TileAsset) : State := { s with tex := m }
/-- The reset input's level (R270). -/
def State.setInReset (s : State) (b : Bool) : State := { s with inReset := b }
/-- Answer a host read. -/
def State.answer (s : State) (v : Reply) : State := { s with replies := s.replies ++ [v] }
/-- Take the first pending operation off, leaving `rest`; the next operation draws its own free values. -/
def State.nextOp (s : State) (rest : List HostOp) : State := { s with ops := rest, draws := s.draws + 1 }

/-! ## Registers by name (R21) -/

/-- The register a number names; none above 0x1F (R21, R49). -/
def regOfNumber (a : Byte) : Option Reg :=
  match a.toNat with
  | 0x00 => some .cmd
  | 0x01 => some .status
  | 0x02 => some .len
  | 0x03 => some .n
  | 0x04 => some .r
  | 0x05 => some .timeMs
  | 0x06 => some .ctrl
  | 0x07 => some .repeatSpan
  | 0x08 => some .x0
  | 0x09 => some .y0
  | 0x0A => some .nvis
  | 0x0B => some .key
  | 0x0C => some .pos
  | 0x0D => some .sdata
  | 0x0E => some .sTile
  | 0x0F => some .sPx
  | 0x10 => some .sPy
  | 0x11 => some .sWx
  | 0x12 => some .sWy
  | 0x13 => some .sSym
  | 0x14 => some .sRgb
  | 0x15 => some .fbSide
  | 0x16 => some .tgN
  | 0x17 => some .agN
  | 0x18 => some (.wmask 0)
  | 0x19 => some (.wmask 1)
  | 0x1A => some (.wmask 2)
  | 0x1B => some (.wmask 3)
  | 0x1C => some (.wmask 4)
  | 0x1D => some (.wmask 5)
  | 0x1E => some (.wmask 6)
  | 0x1F => some (.wmask 7)
  | _ => none

/-- A register's value, zero-extended to 32 bits; CMD holds none and reads 0 (R24, R122). -/
def readReg (s : State) : Reg → Word
  | .cmd => 0
  | .status => s.status
  | .len => s.len
  | .n => s.n.setWidth 32
  | .r => s.r.setWidth 32
  | .timeMs => s.timeMs
  | .ctrl => s.ctrl
  | .repeatSpan => s.repeatSpan.setWidth 32
  | .x0 => s.x0.setWidth 32
  | .y0 => s.y0.setWidth 32
  | .nvis => s.nvis.setWidth 32
  | .key => s.key.setWidth 32
  | .pos => s.pos
  | .sdata => s.sdata.setWidth 32
  | .sTile => s.sTile.setWidth 32
  | .sPx => s.sPx.setWidth 32
  | .sPy => s.sPy.setWidth 32
  | .sWx => s.sWx.setWidth 32
  | .sWy => s.sWy.setWidth 32
  | .sSym => s.sSym.setWidth 32
  | .sRgb => s.sRgb.setWidth 32
  | .fbSide => s.fbSide
  | .tgN => s.tgN.setWidth 32
  | .agN => s.agN.setWidth 32
  | .wmask k => s.wmask[k]

/-- A host write of a register other than CMD: an RW register stores `trunc_w(value)` (CTRL `value AND 1`), an RO
register is left alone (R49, R121). The command that a write of CMD runs is Machine/Command.lean's. -/
def storeReg (s : State) (reg : Reg) (v : Word) : State :=
  match reg with
  | .cmd => s
  | .status => s
  | .len => { s with len := v }
  | .n => { s with n := v.setWidth 16 }
  | .r => { s with r := v.setWidth 16 }
  | .timeMs => { s with timeMs := v }
  | .ctrl => { s with ctrl := v &&& 1 }
  | .repeatSpan => { s with repeatSpan := v.setWidth 16 }
  | .x0 => { s with x0 := v.setWidth 16 }
  | .y0 => { s with y0 := v.setWidth 16 }
  | .nvis => { s with nvis := v.setWidth 16 }
  | .key => s
  | .pos => s
  | .sdata => { s with sdata := v.setWidth 8 }
  | .sTile => { s with sTile := v.setWidth 8 }
  | .sPx => { s with sPx := v.setWidth 16 }
  | .sPy => { s with sPy := v.setWidth 16 }
  | .sWx => { s with sWx := v.setWidth 16 }
  | .sWy => { s with sWy := v.setWidth 16 }
  | .sSym => { s with sSym := v.setWidth 3 }
  | .sRgb => s
  | .fbSide => s
  | .tgN => s
  | .agN => s
  | .wmask k => { s with wmask := s.wmask.set k v }

/-! ## How a command ends (R120, R241, R250) -/

/-- The command ends without error: STATUS.ERR <- 0, and nothing else of STATUS (R120). -/
def complete (s : State) : State := s.setStatus (Status.withErr .none s.status)

/-- `raise e`: the command ends at once with error `e`. This is all that "taking an exception" is on SXD: STATUS.ERR
<- code and STATUS.ESTICKY <- 1; control goes nowhere, nothing is saved, and there is no return (R241, R250, R251). -/
def raise (e : ErrCode) (s : State) : State := s.setStatus (Status.setSticky (Status.withErr e s.status))

/-- STATUS.MISS <- b: cleared at the start of SAMPLE and RENDER, and set from what they sampled (R23, R191, R210). -/
def setMiss (b : Bool) (s : State) : State := s.setStatus (Status.withMiss b s.status)

end Sys2Proof.Machine
end

