-- ==== Sys2Proof/Machine/Operands.lean ====
section
/-! DEFINITION. How commands form their operands from registers and memories (R95, R170, R212), and the exact integer
and rational helpers of R9. -/
namespace Sys2Proof.Machine

/-! ## Exact arithmetic (R9) -/

/-- `a mod m` in ℚ for m > 0: `a − m·floor(a/m)`, the floored modulo. -/
def ratMod (a m : Rat) : Rat := a - m * ((a / m).floor : Rat)

/-- `clamp(k, lo, hi)` in ℤ. -/
def clampInt (k lo hi : Int) : Int := min (max k lo) hi

/-! ## The buffer operand -/

/-- The bytes `BUF[0]` to `BUF[n − 1]` (R25). -/
def bufBytes (s : State) (n : Nat) : List Byte := (List.range n).map (bufRead s)

/-! ## Sub-tile coordinates -/

/-- The pixel centre `(2p + 1)/(2R)` (R95, R216). -/
def pixelCentre (p r : Nat) : Rat := (2 * (p : Rat) + 1) / (2 * (r : Rat))

/-- CTRL.SYM_EN (R29). -/
def symEnabled (s : State) : Bool := s.ctrl.getLsbD 0

/-- `IsWater(t)`: bit `t mod 32` of WMASK`(t div 32)` (R39). -/
def isWater (s : State) (t : Byte) : Bool := (s.wmask[t.toNat / 32]'(by omega)).getLsbD (t.toNat % 32)

/-! ## Grid coordinates -/

/-- The linear index of cell (x, y) of an n×n grid (R66). -/
def gridIndex (n x y : Nat) : Nat := y * n + x

/-- `cl(k) = clamp(k, 0, N − 1)`, for k ≥ 0 and N ≥ 1 (R212). -/
def clampAxis (n k : Nat) : Nat := min k (n - 1)

end Sys2Proof.Machine
end

