-- ==== Sys2Proof/Machine/Cipher.lean ====
section
/-! DEFINITION. The stream cipher and the attribute XOR pass: DINIT, DSTEP, DECRYPT, DEOBF (R140 to R151). -/
namespace Sys2Proof.Machine

/-- KT, the cipher key table (R40). -/
def keyTable : List Byte :=
  [0xD1, 0x73, 0x52, 0xF6, 0xD2, 0x9A, 0xCB, 0x27, 0x3E, 0xAF, 0x59, 0x31, 0x37, 0xB3, 0xE7, 0xA2]

/-- T3, the attribute XOR table (R41). -/
def xorTable : List Byte := [0xFC, 0xCF, 0xAB]

/-- `KT[i mod 16]`. -/
def keyTableAt (i : Nat) : Byte := keyTable.getD (i % 16) 0

/-- `T3[i mod 3]`. -/
def xorTableAt (i : Nat) : Byte := xorTable.getD (i % 3) 0

/-- The addend 0x3D of the key update (R7). -/
def keyAddend : Byte := 0x3D

/-- The output byte of `DecStep`; the subtraction wraps modulo 256 (R141, R150). -/
def decOut (key : Byte) (pos : BitVec 32) (input : Byte) : Byte := (input ^^^ keyTableAt pos.toNat) - key

/-- The next key of `DecStep`: from the raw byte, not the output (R141). -/
def decKey (input : Byte) : Byte := input + keyAddend

/-- `decrypt` over a list of bytes: the output bytes, and the key and position after the last one (R141, R144). -/
def decStream (key : Byte) (pos : BitVec 32) : List Byte → List Byte × Byte × BitVec 32
  | [] => ([], key, pos)
  | b :: bs =>
    let rest := decStream (decKey b) (pos + 1) bs
    (decOut key pos b :: rest.1, rest.2)

/-- The forward cipher from key `key` and position `i`: SRC's reference for testing, no command (R151). -/
def encStream (key : Byte) (i : Nat) : List Byte → List Byte
  | [] => []
  | p :: ps =>
    let e := (p + key) ^^^ keyTableAt i
    e :: encStream (e + keyAddend) (i + 1) ps

/-- `Encrypt(P)` (R151). -/
def encrypt (ps : List Byte) : List Byte := encStream Config.keyInit 0 ps

/-- `Xor3(B)` where the first byte of the list has index `i` (R146). -/
def xor3 (i : Nat) : List Byte → List Byte
  | [] => []
  | b :: bs => (b ^^^ xorTableAt i) :: xor3 (i + 1) bs

/-- DINIT (R142). -/
def execDinit (s : State) : Host.Outcome State Fault Refusal :=
  .next (complete (s.setCipher Config.keyInit 0))

/-- DSTEP (R143). -/
def execDstep (s : State) : Host.Outcome State Fault Refusal :=
  .next (complete ((s.setSdata (decOut s.key s.pos s.sdata)).setCipher (decKey s.sdata) (s.pos + 1)))

/-- DECRYPT (R144): every raw byte is read before it is overwritten, and the key and position at entry are ignored. -/
def execDecrypt (s : State) : Host.Outcome State Fault Refusal :=
  if Config.bufCap < s.len.toNat then .next (raise .badConfig s)
  else
    let out := decStream Config.keyInit 0 (bufBytes s s.len.toNat)
    .next (complete ((s.setBuf (Memory.writeBlock s.buf 0 out.1)).setCipher out.2.1 out.2.2))

/-- DEOBF (R147). -/
def execDeobf (s : State) : Host.Outcome State Fault Refusal :=
  if Config.bufCap < s.len.toNat then .next (raise .badConfig s)
  else .next (complete (s.setBuf (Memory.writeBlock s.buf 0 (xor3 0 (bufBytes s s.len.toNat)))))

end Sys2Proof.Machine
end

