-- ==== Sys2Proof/Machine/Grid.lean ====
section
/-! DEFINITION. The grid decoders: DECMAP and DECATT (R160 to R171). -/
namespace Sys2Proof.Machine

/-- `N = 0 or N > N_MAX` (R245). -/
def badDimension (s : State) : Bool := decide (s.n.toNat = 0) || decide (Config.nMax < s.n.toNat)

/-- Cell `i` of `MapDecode(BUF, len, n)`, for len ≥ 3n²: the payload is the last 3n² bytes, split into base, overlay
and alpha segments of n² bytes (R161). -/
def mapCell (s : State) (len n i : Nat) : TerrainCell :=
  let off := len - 3 * n * n
  ⟨bufRead s (off + i), bufRead s (off + n * n + i), bufRead s (off + 2 * n * n + i)⟩

/-- Byte `i` of the word layout: the low-order byte of a two-byte cell after a 4-byte header, at offset `lowOff` in
the cell (R166). -/
def wordLayoutAttr (s : State) (lowOff i : Nat) : Byte := bufRead s (4 + 2 * i + lowOff)

/-- Byte `i` of the byte layout: the last n² bytes, for len ≥ n² (R167). -/
def byteLayoutAttr (s : State) (len n i : Nat) : Byte := bufRead s (len - n * n + i)

/-- Fill TG with the decoded grid: cells 0..n² − 1 are written, TG_N <- N, TG_VALID <- 1 (R162). -/
def storeTerrain (s : State) (cells : List TerrainCell) : State :=
  let t := s.setTerrain (Memory.writeBlock s.tg 0 cells) s.n
  t.setStatus (Status.setTgValid t.status)

/-- Fill AG with the decoded grid: cells 0..n² − 1 are written, AG_N <- N, AG_VALID <- 1 (R168). -/
def storeAttributes (s : State) (attrs : List Byte) : State :=
  let t := s.setAttributes (Memory.writeBlock s.ag 0 attrs) s.n
  t.setStatus (Status.setAgValid t.status)

/-- DECMAP (R162). -/
def execDecmap (s : State) : Host.Outcome State Fault Refusal :=
  let n := s.n.toNat
  let len := s.len.toNat
  if badDimension s || decide (Config.bufCap < len) then .next (raise .badConfig s)
  else if len < 3 * n * n then .next (raise .tooSmall s)
  else .next (complete (storeTerrain s ((List.range (n * n)).map (mapCell s len n))))

/-- DECATT (R168): the word layout is tested first (R103). -/
def execDecatt (s : State) : Host.Outcome State Fault Refusal :=
  let n := s.n.toNat
  let len := s.len.toNat
  if badDimension s || decide (Config.bufCap < len) then .next (raise .badConfig s)
  else if len = 4 + 2 * n * n then
    .next (complete (storeAttributes s ((List.range (n * n)).map (wordLayoutAttr s Config.attLowOff))))
  else if n * n ≤ len then
    .next (complete (storeAttributes s ((List.range (n * n)).map (byteLayoutAttr s len n))))
  else .next (raise .badAttLayout s)

end Sys2Proof.Machine
end

