-- ==== Sys2Proof/Machine/Sampler.lean ====
section
/-! DEFINITION. The texture sampler, the symmetry transform and the water animation: SAMPLE (R180 to R195). Every
quantity is an exact rational (R181). -/
namespace Sys2Proof.Machine

/-- The symmetry transform `Sym(s, u, v)`: the swap first, then the flips (R189, the default of `SYM_XFORM`). -/
def symXform (code : BitVec 3) (u v : Rat) : Rat × Rat :=
  let swapped := if code.getLsbD 2 then (v, u) else (u, v)
  (if code.getLsbD 0 then 1 - swapped.1 else swapped.1, if code.getLsbD 1 then 1 - swapped.2 else swapped.2)

/-- `scaleU = REPEAT/W`, `scaleV = REPEAT/H` (R183). -/
def texScale (repeatSpan dim : Nat) : Rat := (repeatSpan : Rat) / (dim : Rat)

/-- `waterScroll`, in [0, 1), added to the U term of a water tile (R185). -/
def waterScroll (time : Nat) : Rat := ((time % 20000 : Nat) : Rat) * (1 / 20000)

/-- `windPhase` (R185). -/
def windPhase (time : Nat) : Rat := ((time % 720000 : Nat) : Rat) * (1 / 500)

/-- `wave`, added to the V term of a water tile (R185). -/
def waterWave (time wx : Nat) (u : Rat) : Rat :=
  Config.sinFn (windPhase time + ((wx : Rat) + u) * 5) * 10 * (1 / 500)

/-- `effU` before the wrap (R186). -/
def effU (water : Bool) (repeatSpan width wx time : Nat) (u : Rat) : Rat :=
  ((wx : Rat) + u) * texScale repeatSpan width + (if water then waterScroll time else 0)

/-- `effV` before the wrap (R186). -/
def effV (water : Bool) (repeatSpan height wx wy time : Nat) (u v : Rat) : Rat :=
  ((wy : Rat) + v) * texScale repeatSpan height + (if water then waterWave time wx u else 0)

/-- The texel coordinate on one axis: wrap into [0, 1), then `floor(f·dim) mod dim` (R186, R187). -/
def texelCoord (eff : Rat) (dim : Nat) : Nat :=
  ((ratMod eff 1 * (dim : Rat)).floor % (dim : Int)).toNat

/-- The asset that tile `t` resolves to: an absent tile and one with a zero dimension are misses (R182). -/
def resolve (s : State) (t : Byte) : Option TileAsset :=
  match texAsset s t with
  | none => none
  | some a => if 1 ≤ a.width.toNat ∧ 1 ≤ a.height.toNat then some a else none

/-- The colour of tile `t`, resolved to `a`, at the coordinates given (R184 to R187). -/
def sampleAsset (s : State) (t : Byte) (a : TileAsset) (u v : Rat) (wx wy time : Nat) : Colour :=
  let water := isWater s t
  texPix s t a
    (texelCoord (effU water s.repeatSpan.toNat a.width.toNat wx time u) a.width.toNat)
    (texelCoord (effV water s.repeatSpan.toNat a.height.toNat wx wy time u v) a.height.toNat)

/-- `Sample(t, u, v, wx, wy, T)`: the colour, and whether the placeholder was substituted (R180, R190). -/
def sampleTile (s : State) (t : Byte) (u v : Rat) (wx wy time : Nat) : Colour × Bool :=
  match resolve s t with
  | none => (Config.placeholder, true)
  | some a => (sampleAsset s t a u v wx wy time, false)

/-- `R = 0 or R > R_MAX` (R245). -/
def badResolution (s : State) : Bool := decide (s.r.toNat = 0) || decide (Config.rMax < s.r.toNat)

/-- The sub-tile coordinates that SAMPLE hands to `Sample` (R191). -/
def sampleCoords (s : State) : Rat × Rat :=
  let u := pixelCentre s.sPx.toNat s.r.toNat
  let v := pixelCentre s.sPy.toNat s.r.toNat
  if symEnabled s then symXform s.sSym u v else (u, v)

/-- SAMPLE (R191). A miss is no error (R182). -/
def execSample (s : State) : Host.Outcome State Fault Refusal :=
  let s0 := setMiss false s
  if badResolution s || decide (s.r.toNat ≤ s.sPx.toNat) || decide (s.r.toNat ≤ s.sPy.toNat) then
    .next (raise .badConfig s0)
  else
    let uv := sampleCoords s
    let c := sampleTile s s.sTile uv.1 uv.2 s.sWx.toNat s.sWy.toNat s.timeMs.toNat
    .next (complete (setMiss c.2 (s0.setSample c.1)))

end Sys2Proof.Machine
end

