-- ==== Sys2Proof/Machine/Compositor.lean ====
section
/-! DEFINITION. The tile compositor: RENDER (R210 to R225). -/
namespace Sys2Proof.Machine

/-! ## Per-cell setup (R212 to R215) -/

/-- What the setup of one cell yields. -/
structure CellSetup where
  baseTex : Byte
  ovTex : Byte
  ovEnabled : Bool
  /-- Corner alphas a1 to a4, as bytes (R213). -/
  a1 : Nat
  a2 : Nat
  a3 : Nat
  a4 : Nat
  /-- The symmetry code (R215). -/
  sym : BitVec 3
deriving DecidableEq, Repr

/-- `idx` of the corner at column x, row y: each axis clamped to 0..N − 1 on its own, never wrapped (R212). -/
def cornerIndex (n x y : Nat) : Nat := gridIndex n (clampAxis n x) (clampAxis n y)

/-- `a_k`: the alpha byte of TG at a corner (R213). -/
def cornerAlpha (s : State) (x y : Nat) : Nat := (tgRead s (cornerIndex s.n.toNat x y)).alpha.toNat

/-- The symmetry code of a cell: taken at corner 1 when SYM_EN = 1, else 0 (R215). -/
def cellSymmetry (s : State) (x y : Nat) : BitVec 3 :=
  if symEnabled s then (agRead s (cornerIndex s.n.toNat x y)).extractLsb' 0 3 else 0

/-- Setup of cell (x, y): corners in the order (x, y), (x+1, y), (x+1, y+1), (x, y+1); a cell whose four alphas are all
255 takes the overlay index as its base texture, with no test for the sentinel 255 (R212 to R215). -/
def cellSetup (s : State) (x y : Nat) : CellSetup :=
  let c1 := tgRead s (cornerIndex s.n.toNat x y)
  let a1 := cornerAlpha s x y
  let a2 := cornerAlpha s (x + 1) y
  let a3 := cornerAlpha s (x + 1) (y + 1)
  let a4 := cornerAlpha s x (y + 1)
  let saturated := decide (min (min a1 a2) (min a3 a4) = 255)
  { baseTex := if saturated then c1.overlay else c1.base
    ovTex := c1.overlay
    ovEnabled := !saturated && (c1.overlay != 255 && decide (1 ≤ max (max a1 a2) (max a3 a4)))
    a1 := a1, a2 := a2, a3 := a3, a4 := a4
    sym := cellSymmetry s x y }

/-! ## Per-pixel computation (R216 to R219) -/

/-- The bilinear alpha at (u, v): `top` runs from corner 1 to corner 2, `bottom` from corner 4 to corner 3, each alpha
byte a standing for the weight a/255 (R217). -/
def bilinearAlpha (a1 a2 a3 a4 : Nat) (u v : Rat) : Rat :=
  let w (a : Nat) : Rat := (a : Rat) / 255
  let top := w a1 * (1 - u) + w a2 * u
  let bottom := w a4 * (1 - u) + w a3 * u
  top * (1 - v) + bottom * v

/-- `Round` (R219). -/
def blendRound (mode : Config.BlendRound) (q : Rat) : Int :=
  match mode with
  | .floor => q.floor
  | .nearest => (q + 1 / 2).floor

/-- One channel of `Blend` (R219). -/
def blendChannel (mode : Config.BlendRound) (base ov : Byte) (alpha : Rat) : Byte :=
  let q : Rat := (base.toNat : Rat) * (1 - alpha) + (ov.toNat : Rat) * alpha
  BitVec.ofNat 8 (clampInt (blendRound mode q) 0 255).toNat

/-- `Blend(base, ov, alpha)`: three independent lanes under one alpha (R219). -/
def blend (mode : Config.BlendRound) (base ov : Colour) (alpha : Rat) : Colour :=
  ⟨blendChannel mode base.r ov.r alpha, blendChannel mode base.g ov.g alpha, blendChannel mode base.b ov.b alpha⟩

/-- `Pixel(x, y, px, py)` of a cell whose setup is `c`: the colour, and whether a sample missed. The weights use the
untransformed (u, v), the samples the transformed ones, and the cell's own x and y, unclamped (R216, R218). -/
def pixelOfCell (mode : Config.BlendRound) (s : State) (c : CellSetup) (x y px py : Nat) : Colour × Bool :=
  let u := pixelCentre px s.r.toNat
  let v := pixelCentre py s.r.toNat
  let uv := symXform c.sym u v
  let base := sampleTile s c.baseTex uv.1 uv.2 x y s.timeMs.toNat
  let alpha := bilinearAlpha c.a1 c.a2 c.a3 c.a4 u v
  if c.ovEnabled && decide (1 / 1000 < alpha) then
    let ov := sampleTile s c.ovTex uv.1 uv.2 x y s.timeMs.toNat
    (blend mode base.1 ov.1 alpha, base.2 || ov.2)
  else base

/-- `Pixel(x, y, px, py)` with the cell's setup. -/
def pixelAt (mode : Config.BlendRound) (s : State) (x y px py : Nat) : Colour × Bool :=
  pixelOfCell mode s (cellSetup s x y) x y px py

/-! ## The command -/

/-- The side of the frame, `S = NVIS·R`, in ℤ (R210). -/
def frameSide (s : State) : Nat := s.nvis.toNat * s.r.toNat

/-- The pixel of the frame at (row, col): it is sub-tile pixel (col mod R, row mod R) of the cell in column
X0 + col div R and row Y0 + row div R, which is R220 read from the framebuffer's side. -/
def framePixel (mode : Config.BlendRound) (s : State) (row col : Nat) : Colour × Bool :=
  let r := s.r.toNat
  pixelAt mode s (s.x0.toNat + col / r) (s.y0.toNat + row / r) (col % r) (row % r)

/-- Every pixel of the frame once, by framebuffer address (R76 leaves the order free; R220). -/
def frameEntries (mode : Config.BlendRound) (s : State) : List (Nat × (Colour × Bool)) :=
  (List.range (frameSide s)).flatMap fun row =>
    (List.range (frameSide s)).map fun col => (fbAddr row col, framePixel mode s row col)

/-- A RENDER whose checks passed: FB holds exactly the frame, and no pixel from before (R210, R222). -/
def renderFrame (mode : Config.BlendRound) (s : State) : State :=
  let entries := frameEntries mode s
  setMiss (entries.any (fun p => p.2.2))
    (s.setFrame (entries.map (fun p => (p.1, p.2.1))) (BitVec.ofNat 32 (frameSide s)))

/-- RENDER (R210), with the checks of R211 in their order. -/
def execRender (s : State) : Host.Outcome State Fault Refusal :=
  let s0 := setMiss false s
  if badDimension s || badResolution s || decide (Config.fbSideMax < frameSide s) then .next (raise .badConfig s0)
  else if s.tgN ≠ s.n then .next (raise .noGrid s0)
  else if symEnabled s ∧ s.agN ≠ s.n then .next (raise .noGrid s0)
  else .next (complete (renderFrame Config.blendRound s0))

end Sys2Proof.Machine
end

