-- ==== Sys2Proof/Machine/Control.lean ====
section
/-! DEFINITION. The control family: NOP (R124). SXD has no branch, trap return, fence or wait (R123, R125, R77). -/
namespace Sys2Proof.Machine

/-- NOP (R124): ERR <- 0, nothing else. -/
def execNop (s : State) : Host.Outcome State Fault Refusal := .next (complete s)

end Sys2Proof.Machine
end

