-- ==== Sys2Proof/Machine/Dispatch.lean ====
section
/-! DEFINITION. What each command does, one arm per command. -/
namespace Sys2Proof.Machine

def exec (i : Instr) (s : State) : Host.Outcome State Fault Refusal :=
  match i with
  | .nop => Sys2Proof.Machine.execNop s
  | .dinit => Sys2Proof.Machine.execDinit s
  | .dstep => Sys2Proof.Machine.execDstep s
  | .decrypt => Sys2Proof.Machine.execDecrypt s
  | .deobf => Sys2Proof.Machine.execDeobf s
  | .decmap => Sys2Proof.Machine.execDecmap s
  | .decatt => Sys2Proof.Machine.execDecatt s
  | .sample => Sys2Proof.Machine.execSample s
  | .render => Sys2Proof.Machine.execRender s

end Sys2Proof.Machine
end

