-- ==== Sys2Proof/Machine/Command.lean ====
section
/-! DEFINITION. Running a command word (R120). -/
namespace Sys2Proof.Machine

/-- A host write of `w` to CMD: decode, then run the command; an illegal word raises IllegalCommand (R93, R120,
R244). -/
def issueCommand (w : Word) (s : State) : Host.Outcome State Fault Refusal :=
  match decodeWord w with
  | .ok i => exec i s
  | .error _ => .next (raise .illegalCommand s)

end Sys2Proof.Machine
end

