-- ==== Sys2Proof/Machine/HostPort.lean ====
section
/-! DEFINITION. The operations of the outside world on SXD's ports, each one atomic step (R61, R75, R121, R122, R270),
and the host notation of R97 and R98. -/
namespace Sys2Proof.Machine

/-- `WR reg, value` (R121). -/
def hostWrite (reg : Byte) (v : Word) (s : State) : Host.Outcome State Fault Refusal :=
  match regOfNumber reg with
  | none => .next s
  | some .cmd => issueCommand v s
  | some name => .next (storeReg s name v)

/-- What `RD reg` returns: 0 for CMD and for a number above 0x1F (R122). -/
def hostRead (reg : Byte) (s : State) : Word :=
  match regOfNumber reg with
  | none => 0
  | some name => readReg s name

/-- The reset input is released: SXD is in the state of R271. TEX is not SXD's, and what the outside world still has
to do and has been answered is its own (R270, R271). A release with no assertion before it does nothing. -/
def releaseReset (s : State) : State :=
  if s.inReset then
    { State.reset with tex := s.tex, ops := s.ops, replies := s.replies, draws := s.draws }
  else s

/-- A port operation: while reset is asserted no command runs and no port responds (R270). -/
def portOp (s : State) (act : Host.Outcome State Fault Refusal) : Host.Outcome State Fault Refusal :=
  if s.inReset then .next s else act

/-- Perform one operation of the outside world. An address outside its space is refused (R61, U7). -/
def hostStep (op : HostOp) (s : State) : Host.Outcome State Fault Refusal :=
  match op with
  | .wr reg v => portOp s (hostWrite reg v s)
  | .rd reg => portOp s (.next (s.answer (.word (hostRead reg s))))
  | .bufW a v =>
    portOp s (if bufInRange a then .next (s.setBuf (Memory.write s.buf a v)) else .refused .bufAddressOutOfRange)
  | .bufR a =>
    portOp s (if bufInRange a then .next (s.answer (.byte (bufRead s a))) else .refused .bufAddressOutOfRange)
  | .tgR i =>
    portOp s (if cellInRange i then .next (s.answer (.cell (tgRead s i))) else .refused .tgCellOutOfRange)
  | .agR i =>
    portOp s (if cellInRange i then .next (s.answer (.byte (agRead s i))) else .refused .agCellOutOfRange)
  | .fbR row col =>
    portOp s
      (if pixelInRange row col then .next (s.answer (.pixel (fbRead s row col))) else .refused .fbPixelOutOfRange)
  | .texLoad t a => .next (s.setTex (Memory.write s.tex t.toNat a))
  | .texUnload t => .next (s.setTex (Memory.erase s.tex t.toNat))
  | .assertReset => .next (s.setInReset true)
  | .releaseReset => .next (releaseReset s)

/-! ## Host notation (R97) and pseudo-commands (R98): lists of operations -/

/-- `<MNEMONIC>`: write the command's word to CMD. -/
def issue (i : Instr) : HostOp := .wr 0x00 (encode i)

/-- `LDBUF addr, b0 b1 …`. -/
def ldbuf (addr : Nat) : List Byte → List HostOp
  | [] => []
  | b :: bs => .bufW addr b :: ldbuf (addr + 1) bs

/-- `RDBUF addr, n`. -/
def rdbuf (addr n : Nat) : List HostOp := (List.range n).map (fun k => .bufR (addr + k))

/-- `LOADMAP`. -/
def loadMap : List HostOp := [issue .decrypt, issue .decmap]

/-- `LOADATT`. -/
def loadAtt : List HostOp := [issue .decrypt, issue .deobf, issue .decatt]

/-- One byte of `STREAM`: `WR SDATA, b ; DSTEP ; RD SDATA`. -/
def streamByte (b : Byte) : List HostOp := [.wr 0x0D (b.setWidth 32), issue .dstep, .rd 0x0D]

/-- `STREAM b0 b1 …`. -/
def stream (bs : List Byte) : List HostOp := issue .dinit :: bs.flatMap streamByte

end Sys2Proof.Machine
end

