-- ==== Sys2Proof/Machine/Step.lean ====
section
/-! DEFINITION. One step of the machine (R22, R75): the outside world's next operation, performed as one atomic step.
With none pending SXD is idle and the step changes nothing (R258). -/
namespace Sys2Proof.Machine

def step (s : State) : Host.Outcome State Fault Refusal :=
  match s.ops with
  | [] => .next s
  | op :: rest => hostStep op (s.nextOp rest)

/-- `s` with the command word made of the `nbits` low bits of `w` as the very next thing the host writes to CMD, the
reset input released. SXD has no program counter and no program store: this write is where its next command comes from
(R22, R79; log entry 7). -/
def State.withFetchWord (s : State) (nbits w : Nat) : State :=
  { s with inReset := false, ops := .wr 0x00 (BitVec.ofNat 32 (w % 2 ^ nbits)) :: s.ops }

end Sys2Proof.Machine
end

