-- ==== Sys2Proof/Safety.lean ====
section
/-! DEFINITION. What claims are stated with: the invariant every step keeps, what "no command failed" means, and the
ways in which two states agree. -/
namespace Sys2Proof.Machine

/-! ## The invariant -/

/-- Every listed address is below `cap`. -/
def Memory.below {α : Type} (cap : Nat) (m : Memory α) : Prop := ∀ p ∈ m, p.1 < cap

/-- The cells 0..n² − 1 are all listed: a decode wrote them. -/
def Memory.holdsGrid {α : Type} (n : Nat) (m : Memory α) : Prop := ∀ i, i < n * n → (Memory.lookup m i).isSome

/-- The framebuffer lists exactly the pixels of a frame of side `side` (R45, R222). -/
def frameListed (side : Nat) (fb : Memory Colour) : Prop :=
  ∀ row col, row < Config.fbSideMax → col < Config.fbSideMax →
    ((Memory.lookup fb (fbAddr row col)).isSome ↔ row < side ∧ col < side)

/-- What holds of SXD after reset and after every step. -/
structure State.Inv (s : State) : Prop where
  /-- BUF is in canonical form inside its address space (R60). -/
  bufForm : Memory.wf s.buf ∧ Memory.below Config.bufCap s.buf
  /-- TG is in canonical form inside its address space (R60). -/
  tgForm : Memory.wf s.tg ∧ Memory.below (Config.nMax * Config.nMax) s.tg
  /-- AG is in canonical form inside its address space (R60). -/
  agForm : Memory.wf s.ag ∧ Memory.below (Config.nMax * Config.nMax) s.ag
  /-- FB is in canonical form inside its address space (R60). -/
  fbForm : Memory.wf s.fb ∧ Memory.below (Config.fbSideMax * Config.fbSideMax) s.fb
  /-- TEX is in canonical form and names tile indices only (R44). -/
  texForm : Memory.wf s.tex ∧ Memory.below 256 s.tex
  /-- STATUS bits 31:8 read 0 (R23). -/
  statusReserved : Status.reserved s.status = 0
  /-- CTRL bits 31:1 read 0 (R29). -/
  ctrlReserved : s.ctrl.extractLsb' 1 31 = 0
  /-- ERR codes 6 to 15 are never produced (R240). -/
  errCode : (Status.err s.status).toNat ≤ 5
  /-- An error that ERR shows is recorded in ESTICKY (R23). -/
  errSticky : Status.err s.status ≠ 0 → Status.esticky s.status = true
  /-- TG_VALID = 1 exactly when TG_N ≠ 0 (R23). -/
  tgValidIff : Status.tgValid s.status = true ↔ s.tgN ≠ 0
  /-- AG_VALID = 1 exactly when AG_N ≠ 0 (R23). -/
  agValidIff : Status.agValid s.status = true ↔ s.agN ≠ 0
  /-- A decoded grid fits the grid memory, and all its cells were written (R43). -/
  tgGrid : s.tgN.toNat ≤ Config.nMax ∧ Memory.holdsGrid s.tgN.toNat s.tg
  /-- The same of the attribute grid (R43). -/
  agGrid : s.agN.toNat ≤ Config.nMax ∧ Memory.holdsGrid s.agN.toNat s.ag
  /-- FB holds exactly the last frame (R37, R45). -/
  fbFrame : s.fbSide.toNat ≤ Config.fbSideMax ∧ frameListed s.fbSide.toNat s.fb

/-! ## Runs -/

/-- `k` steps, one after the other; a refusal ends them. -/
def stepN : Nat → State → Host.Outcome State Fault Refusal
  | 0, s => .next s
  | k + 1, s =>
    match step s with
    | .next t => stepN k t
    | .fault f => .fault f
    | .refused reason => .refused reason

/-- No command has failed since reset: `STATUS.ESTICKY = 0` (R251). -/
def State.noErrorRecorded (s : State) : Prop := Status.esticky s.status = false

/-! ## Agreement of two states -/

/-- STATUS of `t` has these fields, and the reserved bits that STATUS of `s` has. -/
def StatusAfter (s t : State) (tgv agv miss sticky : Bool) (err : BitVec 4) : Prop :=
  Status.tgValid t.status = tgv ∧ Status.agValid t.status = agv ∧ Status.miss t.status = miss ∧
  Status.esticky t.status = sticky ∧ Status.err t.status = err ∧ Status.reserved t.status = Status.reserved s.status

/-- The command completed: ERR is 0 and the other fields are as before (R120). -/
def CompletedStatus (s t : State) : Prop :=
  StatusAfter s t (Status.tgValid s.status) (Status.agValid s.status) (Status.miss s.status)
    (Status.esticky s.status) 0

/-- The command raised the error with this code: ERR and ESTICKY, with MISS as `miss` (R241). -/
def RaisedStatus (s t : State) (miss : Bool) (code : BitVec 4) : Prop :=
  StatusAfter s t (Status.tgValid s.status) (Status.agValid s.status) miss true code

/-- `t` differs from `s` in STATUS alone: every other register, every memory, TEX and what stands outside SXD are the
same. -/
def SameButStatus (s t : State) : Prop := t = { s with status := t.status }

/-- Every register outside `except` reads the same. -/
def SameRegs (except : List Reg) (s t : State) : Prop := ∀ name, name ∉ except → readReg t name = readReg s name

/-- Every byte of BUF reads the same. -/
def SameBuf (s t : State) : Prop := ∀ a, bufRead t a = bufRead s a
/-- Every cell of TG reads the same. -/
def SameTg (s t : State) : Prop := ∀ i, tgRead t i = tgRead s i
/-- Every cell of AG reads the same. -/
def SameAg (s t : State) : Prop := ∀ i, agRead t i = agRead s i
/-- Every pixel of FB reads the same. -/
def SameFb (s t : State) : Prop := ∀ row col, fbRead t row col = fbRead s row col

/-- What is not SXD's own is the same: TEX, the reset input, the pending operations, the answers and the counter of
free values. -/
def SameOutside (s t : State) : Prop :=
  t.tex = s.tex ∧ t.inReset = s.inReset ∧ t.ops = s.ops ∧ t.replies = s.replies ∧ t.draws = s.draws

/-! ## The conditions under which a command runs (R245, R246) -/

/-- LEN fits the buffer: DECRYPT and DEOBF run (R245). -/
def bufferFits (s : State) : Prop := s.len.toNat ≤ 262144

/-- N is a legal dimension and LEN fits the buffer: no BadConfig from DECMAP or DECATT (R245). -/
def decoderConfigured (s : State) : Prop := 1 ≤ s.n.toNat ∧ s.n.toNat ≤ 256 ∧ s.len.toNat ≤ 262144

/-- R is legal and the pixel lies inside the cell: SAMPLE runs (R245). -/
def sampleConfigured (s : State) : Prop :=
  1 ≤ s.r.toNat ∧ s.r.toNat ≤ 64 ∧ s.sPx.toNat < s.r.toNat ∧ s.sPy.toNat < s.r.toNat

/-- N, R and the frame's side are legal: no BadConfig from RENDER (R245). -/
def renderConfigured (s : State) : Prop :=
  1 ≤ s.n.toNat ∧ s.n.toNat ≤ 256 ∧ 1 ≤ s.r.toNat ∧ s.r.toNat ≤ 64 ∧ s.nvis.toNat * s.r.toNat ≤ 16384

/-- The grids that RENDER reads were decoded for the N in force (R246). -/
def gridsMatch (s : State) : Prop := s.tgN = s.n ∧ (s.ctrl.getLsbD 0 = true → s.agN = s.n)

/-! ## The register map as R21 gives it -/

/-- The width `w` of a register. -/
def regWidth : Reg → Nat
  | .cmd => 32 | .status => 32 | .len => 32 | .n => 16 | .r => 16 | .timeMs => 32 | .ctrl => 32 | .repeatSpan => 16
  | .x0 => 16 | .y0 => 16 | .nvis => 16 | .key => 8 | .pos => 32 | .sdata => 8 | .sTile => 8 | .sPx => 16
  | .sPy => 16 | .sWx => 16 | .sWy => 16 | .sSym => 3 | .sRgb => 24 | .fbSide => 32 | .tgN => 16 | .agN => 16
  | .wmask _ => 32

/-- Access RO: a host write has no effect. -/
def readOnly : Reg → Bool
  | .status => true | .key => true | .pos => true | .sRgb => true | .fbSide => true | .tgN => true | .agN => true
  | .cmd => false | .len => false | .n => false | .r => false | .timeMs => false | .ctrl => false
  | .repeatSpan => false | .x0 => false | .y0 => false | .nvis => false | .sdata => false | .sTile => false
  | .sPx => false | .sPy => false | .sWx => false | .sWy => false | .sSym => false | .wmask _ => false

/-- Every value that any register holds after reset (R271). -/
def resetValue : Reg → Nat
  | .n => 256 | .repeatSpan => 64 | .key => 0x5E
  | .cmd => 0 | .status => 0 | .len => 0 | .r => 0 | .timeMs => 0 | .ctrl => 0 | .x0 => 0 | .y0 => 0 | .nvis => 0
  | .pos => 0 | .sdata => 0 | .sTile => 0 | .sPx => 0 | .sPy => 0 | .sWx => 0 | .sWy => 0 | .sSym => 0 | .sRgb => 0
  | .fbSide => 0 | .tgN => 0 | .agN => 0 | .wmask _ => 0

/-! ## The cipher in closed form (R100) -/

/-- `K_i` of an encrypted stream `raw`: 0x5E for the first byte, then from the raw byte before (R100). -/
def cipherKeyAt (raw : Nat → Byte) : Nat → Byte
  | 0 => 0x5E
  | i + 1 => raw i + 0x3D

/-- `P[i]` of an encrypted stream `raw` (R100). -/
def plainByteAt (raw : Nat → Byte) (i : Nat) : Byte := (raw i ^^^ keyTableAt i) - cipherKeyAt raw i

/-! ## The compositor's integers (R217) -/

/-- `A` of R217. -/
def alphaNumerator (r a1 a2 a3 a4 px py : Nat) : Nat :=
  let m := 2 * px + 1
  let n := 2 * py + 1
  a1 * (2 * r - m) * (2 * r - n) + a2 * m * (2 * r - n) + a3 * m * n + a4 * (2 * r - m) * n

/-- `D` of R217. -/
def alphaDenominator (r : Nat) : Nat := 1020 * r * r

/-- A blended channel in the integer form of R219. -/
def blendInt (base ov num den : Nat) : Nat := (base * (den - num) + ov * num) / den

/-- The terrain cell at a corner of the N×N grid, each coordinate clamped to 0..N − 1 (R212). -/
def cornerCell (s : State) (x y : Nat) : TerrainCell :=
  tgRead s (min y (s.n.toNat - 1) * s.n.toNat + min x (s.n.toNat - 1))

/-- The sub-tile coordinates that a pixel of cell (x, y) is sampled at (R215, R216). -/
def pixelCoords (s : State) (x y px py : Nat) : Rat × Rat :=
  let u : Rat := (2 * (px : Rat) + 1) / (2 * (s.r.toNat : Rat))
  let v : Rat := (2 * (py : Rat) + 1) / (2 * (s.r.toNat : Rat))
  if s.ctrl.getLsbD 0 then
    symXform ((agRead s (min y (s.n.toNat - 1) * s.n.toNat + min x (s.n.toNat - 1))).extractLsb' 0 3) u v
  else (u, v)

end Sys2Proof.Machine
end

