-- ==== Sys2Proof/Certificates/Slice0/Obligations.lean ====
section
/-! DEFINITION. The statements about SXD that the provers are given, each from the rules it cites. Where a statement
rests on a choice of the model's own, its docstring says so and names the log entry. -/
open Sys2Proof Sys2Proof.Machine

/-! ## Reset and the invariant -/

/-- R271: after reset every register reads the value of the table, KT and T3 are their constants, and what BUF, TG, AG
and FB read as is a free value. -/
def Obligations.ResetLeavesSpecValues : Prop :=
  (∀ name, (readReg State.reset name).toNat = resetValue name) ∧
  keyTable = [0xD1, 0x73, 0x52, 0xF6, 0xD2, 0x9A, 0xCB, 0x27, 0x3E, 0xAF, 0x59, 0x31, 0x37, 0xB3, 0xE7, 0xA2] ∧
  xorTable = [0xFC, 0xCF, 0xAB] ∧
  (∀ a, bufRead State.reset a = Config.unspecByte State.reset.draws a) ∧
  (∀ i, tgRead State.reset i = Config.unspecCell State.reset.draws i) ∧
  (∀ i, agRead State.reset i = Config.unspecAttr State.reset.draws i) ∧
  (∀ row col, fbRead State.reset row col = Config.unspecPixel State.reset.draws row col)

/-- The machine right after reset meets the invariant. -/
def Obligations.ResetMeetsInvariant : Prop := State.reset.Inv

/-- Every step from every state that meets the invariant ends in a state that meets it. -/
def Obligations.StepKeepsInvariant : Prop := ∀ s t : State, s.Inv → step s = .next t → t.Inv

/-- R270: while reset is asserted no command runs and no port responds; a release leaves SXD idle in the state of R271,
with TEX as it was. (That the pending operations, the answers and the counter of free values outlive a reset is the
model's choice, log entry 6.) -/
def Obligations.ResetInputHoldsAndReleases : Prop :=
  (∀ s rest op, s.inReset = true → s.ops = op :: rest →
    (∀ t, (op ≠ .releaseReset ∧ (∀ tile asset, op ≠ .texLoad tile asset) ∧ ∀ tile, op ≠ .texUnload tile) →
      step s = .next t → t = { s with ops := rest, draws := s.draws + 1 }) ∧
    (op = .releaseReset → ∃ t, step s = .next t ∧ (∀ name, (readReg t name).toNat = resetValue name) ∧
      t.buf = [] ∧ t.tg = [] ∧ t.ag = [] ∧ t.fb = [] ∧ t.inReset = false ∧ t.tex = s.tex ∧ t.ops = rest)) ∧
  (∀ s rest, s.inReset = false → s.ops = .assertReset :: rest →
    step s = .next { s with inReset := true, ops := rest, draws := s.draws + 1 })

/-! ## Commands as words -/

/-- Words written out from R92. -/
def Obligations.SpecWordsDecode : Prop :=
  decodeWord 0b00000000000000000000000000000000#32 = .ok .nop ∧
  decodeWord 0b00000000000000000000000000000010#32 = .ok .dstep ∧
  decodeWord 0b00000000000000000000000000000011#32 = .ok .decrypt ∧
  decodeWord 0b00000000000000000000000000000110#32 = .ok .decatt ∧
  decodeWord 0b00000000000000000000000000000111#32 = .ok .sample ∧
  decodeWord 0b00000000000000000000000000001000#32 = .ok .render ∧
  decodeWord 0b00000000000000000000000100000000#32 = .error .reservedBits ∧
  decodeWord 0b00000000000000000000000000001001#32 = .error .noSuchOpcode

/-- R91, R93: the decoder is total; a word with `w[31:8] ≠ 0`, or with OP > 0x08, is illegal, and every other word is
the command of its OP. -/
def Obligations.DecoderClassifiesEveryWord : Prop :=
  ∀ w : BitVec 32,
    (w.toNat / 256 ≠ 0 → decodeWord w = .error .reservedBits) ∧
    (w.toNat / 256 = 0 → 9 ≤ w.toNat % 256 → decodeWord w = .error .noSuchOpcode) ∧
    (w.toNat / 256 = 0 → ∀ (h : w.toNat % 256 < 9),
      decodeWord w = .ok ([Instr.nop, .dinit, .dstep, .decrypt, .deobf, .decmap, .decatt, .sample, .render].get
        ⟨w.toNat % 256, h⟩))

/-- Decoding and encoding agree both ways: a word is a command's word exactly when the decoder reads that command from
it. -/
def Obligations.DecodeAgreesWithEncode : Prop :=
  ∀ (w : BitVec 32) (i : Instr), i.wellFormed = true ∧ (decodeWord w = .ok i ↔ encode i = w)

/-- A step whose next host operation is a write of a command's word to CMD is `exec` of that command. (What the step
adds, taking the operation off the list and counting it, is the model's, log entries 3 and 7.) -/
def Obligations.StepRunsDecodedCommand : Prop :=
  ∀ (s : State) (w : BitVec 32) (rest : List HostOp) (i : Instr),
    s.inReset = false → s.ops = .wr 0x00 w :: rest → decodeWord w = .ok i →
    step s = exec i { s with ops := rest, draws := s.draws + 1 }

/-- R93, R120, R244: an illegal word runs no command and changes no state except STATUS: ERR <- 3, ESTICKY <- 1. (What
the step adds, taking the operation off the list and counting it, is the model's, log entries 3 and 7.) -/
def Obligations.IllegalWordSetsStatusOnly : Prop :=
  ∀ (s : State) (w : BitVec 32) (rest : List HostOp),
    s.inReset = false → s.ops = .wr 0x00 w :: rest → (w.toNat / 256 ≠ 0 ∨ 9 ≤ w.toNat % 256) →
    ∃ t, step s = .next t ∧ RaisedStatus s t (Status.miss s.status) 3 ∧
      t = { s with ops := rest, draws := s.draws + 1, status := t.status }

/-- With no operation pending SXD is idle: a step changes nothing. -/
def Obligations.IdleStepChangesNothing : Prop := ∀ s : State, s.ops = [] → step s = .next s

/-! ## What holds of every command -/

/-- R240: every command ends, with one of the codes that the table lists for it; the codes 6 to 15 are never
produced, and no command faults or is refused. -/
def Obligations.EveryCommandEndsWithItsCodes : Prop :=
  ∀ (i : Instr) (s : State), ∃ t, exec i s = .next t ∧
    (Status.err t.status = 0 ∨
      (Status.err t.status = 1 ∧ i = .decmap) ∨ (Status.err t.status = 2 ∧ i = .decatt) ∨
      (Status.err t.status = 4 ∧ i ∈ [.decrypt, .deobf, .decmap, .decatt, .sample, .render]) ∨
      (Status.err t.status = 5 ∧ i = .render))

/-- R241: a command that raises leaves every register other than STATUS, every memory and TEX exactly as they were, and
sets ESTICKY; of STATUS only ERR, ESTICKY and (cleared by SAMPLE and RENDER) MISS change. -/
def Obligations.FailedCommandChangesStatusOnly : Prop :=
  ∀ (i : Instr) (s t : State), exec i s = .next t → Status.err t.status ≠ 0 →
    SameButStatus s t ∧
    RaisedStatus s t (if i = .sample ∨ i = .render then false else Status.miss s.status) (Status.err t.status)

/-- R120: whichever way a command ends, ERR is what it returned, ESTICKY is set by an error and otherwise keeps its
value, and SXD writes neither TEX nor anything outside itself. -/
def Obligations.CommandFrameOfEveryCommand : Prop :=
  ∀ (i : Instr) (s t : State), exec i s = .next t →
    Status.esticky t.status = (Status.esticky s.status || decide (Status.err t.status ≠ 0)) ∧
    Status.reserved t.status = Status.reserved s.status ∧ SameOutside s t

/-- R270, R251: only a reset clears ESTICKY, TG_VALID or AG_VALID. -/
def Obligations.OnlyResetClearsStickyFlags : Prop :=
  ∀ (s t : State), step s = .next t → s.ops.head? ≠ some .releaseReset →
    (Status.esticky s.status = true → Status.esticky t.status = true) ∧
    (Status.tgValid s.status = true → Status.tgValid t.status = true) ∧
    (Status.agValid s.status = true → Status.agValid t.status = true)

/-- R251: in a run in which reset is not released, "no error recorded" at the end means that no command failed on the
way: none was recorded before, and ERR is 0. -/
def Obligations.NoErrorRecordedMeansNoneFailed : Prop :=
  ∀ (k : Nat) (s t : State), s.Inv → HostOp.releaseReset ∉ s.ops → stepN k s = .next t → t.noErrorRecorded →
    s.noErrorRecorded ∧ Status.err t.status = 0 ∧
    ∀ j u, j ≤ k → stepN j s = .next u → Status.err u.status = 0

/-- R43, R45: outside reset, only a DECMAP word changes TG or TG_N, only a DECATT word AG or AG_N, and only a RENDER word
FB or FB_SIDE. -/
def Obligations.OnlyOwnCommandWritesGridsAndFrame : Prop :=
  ∀ (s t : State), step s = .next t → s.ops.head? ≠ some .releaseReset →
    (s.ops.head? ≠ some (.wr 0x00 5) → t.tg = s.tg ∧ t.tgN = s.tgN) ∧
    (s.ops.head? ≠ some (.wr 0x00 6) → t.ag = s.ag ∧ t.agN = s.agN) ∧
    (s.ops.head? ≠ some (.wr 0x00 8) → t.fb = s.fb ∧ t.fbSide = s.fbSide)

/-- R32: the host cannot load a key: KEY and POS change only by DINIT, DSTEP, DECRYPT and reset. -/
def Obligations.OnlyCipherCommandsWriteKey : Prop :=
  ∀ (s t : State), step s = .next t → s.ops.head? ≠ some .releaseReset →
    s.ops.head? ∉ [some (HostOp.wr 0x00 1), some (.wr 0x00 2), some (.wr 0x00 3)] → t.key = s.key ∧ t.pos = s.pos

/-! ## NOP, DINIT, DSTEP -/

/-- R124. -/
def Obligations.NopClearsErrOnly : Prop :=
  decodeWord 0x00000000 = .ok .nop ∧
  ∀ s : State, ∃ t, exec .nop s = .next t ∧ CompletedStatus s t ∧ SameButStatus s t

/-- R142. -/
def Obligations.DinitStartsStream : Prop :=
  decodeWord 0x00000001 = .ok .dinit ∧
  ∀ s : State, ∃ t, exec .dinit s = .next t ∧ t.key = 0x5E ∧ t.pos = 0 ∧ CompletedStatus s t ∧
    t = { s with key := t.key, pos := t.pos, status := t.status }

/-- R143, R141: SDATA, KEY and POS after DSTEP, as integers. -/
def Obligations.DstepDecryptsOneByte : Prop :=
  decodeWord 0x00000002 = .ok .dstep ∧
  ∀ s : State, ∃ t, exec .dstep s = .next t ∧
    t.sdata.toNat =
      ((s.sdata ^^^ keyTable.getD (s.pos.toNat % 16) 0).toNat + 256 - s.key.toNat) % 256 ∧
    t.key.toNat = (s.sdata.toNat + 0x3D) % 256 ∧ t.pos.toNat = (s.pos.toNat + 1) % 2 ^ 32 ∧
    CompletedStatus s t ∧ t = { s with sdata := t.sdata, key := t.key, pos := t.pos, status := t.status }

/-! ## DECRYPT and DEOBF -/

/-- R144 with the closed form of R100: each byte of the buffer, KEY and POS after DECRYPT, all that it leaves, and its
one error. -/
def Obligations.DecryptBytesAndFrame : Prop :=
  decodeWord 0x00000003 = .ok .decrypt ∧
  (∀ s : State, bufferFits s → ∃ t, exec .decrypt s = .next t ∧
    (∀ i, i < s.len.toNat → bufRead t i = plainByteAt (bufRead s) i) ∧
    (∀ a, s.len.toNat ≤ a → bufRead t a = bufRead s a) ∧
    t.key = cipherKeyAt (bufRead s) s.len.toNat ∧ t.pos = s.len ∧ CompletedStatus s t ∧
    SameRegs [.key, .pos, .status] s t ∧ SameTg s t ∧ SameAg s t ∧ SameFb s t ∧ SameOutside s t) ∧
  (∀ s : State, ¬ bufferFits s → ∃ t, exec .decrypt s = .next t ∧ RaisedStatus s t (Status.miss s.status) 4 ∧
    SameButStatus s t)

/-- R151: what `Encrypt` computes, and that DECRYPT of a buffer that holds `Encrypt(P)` gives P back, for every byte
string P that the buffer can hold; the function `decrypt` does so for every byte string of every length. (The formula
of `Encrypt` is the spec's own inference from R141.) -/
def Obligations.DecryptInvertsEncrypt : Prop :=
  (∀ (ps : List Byte) (i : Nat), i < ps.length →
    (encrypt ps).getD i 0 =
      (ps.getD i 0 + cipherKeyAt (fun j => (encrypt ps).getD j 0) i) ^^^ keyTableAt i) ∧
  (∀ ps : List Byte, (encrypt ps).length = ps.length ∧ (decStream 0x5E 0 (encrypt ps)).1 = ps) ∧
  ∀ (s : State) (ps : List Byte), bufferFits s → s.len.toNat = ps.length →
    (∀ i, i < ps.length → bufRead s i = (encrypt ps).getD i 0) →
    ∃ t, exec .decrypt s = .next t ∧ ∀ i, i < ps.length → bufRead t i = ps.getD i 0

/-- The stream form agrees with the block form (R98, R142, R143, R144): the pseudo-command STREAM on any bytes, run
from any state outside reset, answers byte for byte what DECRYPT leaves in a buffer that holds the same bytes, and ends
with the same KEY and POS. (That the host's operations are a list taken one a step, and that answers are appended to a
list, is the model's, log entry 7.) -/
def Obligations.StreamAgreesWithDecrypt : Prop :=
  ∀ (s u : State) (bs : List Byte) (rest : List HostOp),
    s.inReset = false → s.ops = stream bs ++ rest →
    bufferFits u → u.len.toNat = bs.length → (∀ i, i < bs.length → bufRead u i = bs.getD i 0) →
    ∃ t v, stepN (1 + 3 * bs.length) s = .next t ∧ exec .decrypt u = .next v ∧ t.ops = rest ∧
      t.replies = s.replies ++ (List.range bs.length).map (fun i => Reply.word ((bufRead v i).setWidth 32)) ∧
      t.key = v.key ∧ t.pos = v.pos

/-- R145: the output byte i depends on the input bytes i and i − 1 only, and not on KEY or POS at entry. -/
def Obligations.DecryptReadsNeighbourBytesOnly : Prop :=
  ∀ (s s' t t' : State) (i : Nat), bufferFits s → bufferFits s' → i < s.len.toNat → i < s'.len.toNat →
    bufRead s i = bufRead s' i → (i ≠ 0 → bufRead s (i - 1) = bufRead s' (i - 1)) →
    exec .decrypt s = .next t → exec .decrypt s' = .next t' → bufRead t i = bufRead t' i

/-- R147, R146: each byte of the buffer after DEOBF, all that it leaves, and its one error. -/
def Obligations.DeobfXorsWithTable : Prop :=
  decodeWord 0x00000004 = .ok .deobf ∧
  (∀ s : State, bufferFits s → ∃ t, exec .deobf s = .next t ∧
    (∀ i, i < s.len.toNat → bufRead t i = bufRead s i ^^^ [0xFC#8, 0xCF#8, 0xAB#8].getD (i % 3) 0) ∧
    (∀ a, s.len.toNat ≤ a → bufRead t a = bufRead s a) ∧ CompletedStatus s t ∧
    SameRegs [.status] s t ∧ SameTg s t ∧ SameAg s t ∧ SameFb s t ∧ SameOutside s t) ∧
  (∀ s : State, ¬ bufferFits s → ∃ t, exec .deobf s = .next t ∧ RaisedStatus s t (Status.miss s.status) 4 ∧
    SameButStatus s t)

/-- R148: Xor3 undoes itself on every byte string, and two DEOBFs restore every byte of the buffer. -/
def Obligations.DeobfTwiceRestoresBuffer : Prop :=
  (∀ bs : List Byte, xor3 0 (xor3 0 bs) = bs) ∧
  ∀ s : State, bufferFits s → ∃ t v, exec .deobf s = .next t ∧ exec .deobf t = .next v ∧
    ∀ a, bufRead v a = bufRead s a

/-! ## DECMAP and DECATT -/

/-- R162, R161: the grid that DECMAP stores, and all that it leaves; cells from N² on keep their content. -/
def Obligations.DecmapFillsTerrainGrid : Prop :=
  ∀ s : State, decoderConfigured s → 3 * s.n.toNat * s.n.toNat ≤ s.len.toNat →
    ∃ t, exec .decmap s = .next t ∧
    (∀ i, i < s.n.toNat * s.n.toNat →
      tgRead t i = ⟨bufRead s (s.len.toNat - 3 * s.n.toNat * s.n.toNat + i),
        bufRead s (s.len.toNat - 3 * s.n.toNat * s.n.toNat + s.n.toNat * s.n.toNat + i),
        bufRead s (s.len.toNat - 3 * s.n.toNat * s.n.toNat + 2 * s.n.toNat * s.n.toNat + i)⟩) ∧
    (∀ i, s.n.toNat * s.n.toNat ≤ i → Memory.lookup t.tg i = Memory.lookup s.tg i) ∧
    t.tgN = s.n ∧
    StatusAfter s t true (Status.agValid s.status) (Status.miss s.status) (Status.esticky s.status) 0 ∧
    SameRegs [.tgN, .status] s t ∧ SameBuf s t ∧ SameAg s t ∧ SameFb s t ∧ SameOutside s t

/-- R242: DECMAP raises TooSmall exactly when BadConfig (R245) does not apply and LEN < 3·N². -/
def Obligations.DecmapErrors : Prop :=
  ∀ s : State,
    (¬ decoderConfigured s → ∃ t, exec .decmap s = .next t ∧ RaisedStatus s t (Status.miss s.status) 4 ∧
      SameButStatus s t) ∧
    (decoderConfigured s → s.len.toNat < 3 * s.n.toNat * s.n.toNat →
      ∃ t, exec .decmap s = .next t ∧ RaisedStatus s t (Status.miss s.status) 1 ∧ SameButStatus s t) ∧
    (decoderConfigured s → 3 * s.n.toNat * s.n.toNat ≤ s.len.toNat →
      ∃ t, exec .decmap s = .next t ∧ Status.err t.status = 0)

/-- R166, R103, R168: a buffer of 4 + 2N² bytes is the word layout, and the low-order byte of a cell is its first. -/
def Obligations.DecattWordLayout : Prop :=
  ∀ s : State, decoderConfigured s → s.len.toNat = 4 + 2 * s.n.toNat * s.n.toNat →
    ∃ t, exec .decatt s = .next t ∧
    (∀ i, i < s.n.toNat * s.n.toNat → agRead t i = bufRead s (4 + 2 * i)) ∧
    (∀ i, s.n.toNat * s.n.toNat ≤ i → Memory.lookup t.ag i = Memory.lookup s.ag i) ∧
    t.agN = s.n ∧
    StatusAfter s t (Status.tgValid s.status) true (Status.miss s.status) (Status.esticky s.status) 0 ∧
    SameRegs [.agN, .status] s t ∧ SameBuf s t ∧ SameTg s t ∧ SameFb s t ∧ SameOutside s t

/-- R167, R103, R168: every other length ≥ N² is the byte layout. -/
def Obligations.DecattByteLayout : Prop :=
  ∀ s : State, decoderConfigured s → s.len.toNat ≠ 4 + 2 * s.n.toNat * s.n.toNat →
    s.n.toNat * s.n.toNat ≤ s.len.toNat →
    ∃ t, exec .decatt s = .next t ∧
    (∀ i, i < s.n.toNat * s.n.toNat → agRead t i = bufRead s (s.len.toNat - s.n.toNat * s.n.toNat + i)) ∧
    (∀ i, s.n.toNat * s.n.toNat ≤ i → Memory.lookup t.ag i = Memory.lookup s.ag i) ∧
    t.agN = s.n ∧
    StatusAfter s t (Status.tgValid s.status) true (Status.miss s.status) (Status.esticky s.status) 0 ∧
    SameRegs [.agN, .status] s t ∧ SameBuf s t ∧ SameTg s t ∧ SameFb s t ∧ SameOutside s t

/-- R243: DECATT raises BadAttLayout exactly when BadConfig (R245) does not apply and LEN < N², which is when neither
layout matches. -/
def Obligations.DecattErrors : Prop :=
  ∀ s : State,
    (¬ decoderConfigured s → ∃ t, exec .decatt s = .next t ∧ RaisedStatus s t (Status.miss s.status) 4 ∧
      SameButStatus s t) ∧
    (decoderConfigured s → s.len.toNat < s.n.toNat * s.n.toNat →
      s.len.toNat ≠ 4 + 2 * s.n.toNat * s.n.toNat ∧
      ∃ t, exec .decatt s = .next t ∧ RaisedStatus s t (Status.miss s.status) 2 ∧ SameButStatus s t) ∧
    (decoderConfigured s → s.len.toNat = 4 + 2 * s.n.toNat * s.n.toNat ∨ s.n.toNat * s.n.toNat ≤ s.len.toNat →
      ∃ t, exec .decatt s = .next t ∧ Status.err t.status = 0)

/-- R164: DECMAP and DECATT read only LEN, N and BUF: from two states that agree there they end with the same code, and
with the same grid where it is none. -/
def Obligations.DecodersArePure : Prop :=
  ∀ s s' t t' : State, s.len = s'.len → s.n = s'.n → SameBuf s s' →
    (exec .decmap s = .next t → exec .decmap s' = .next t' →
      Status.err t.status = Status.err t'.status ∧
      (Status.err t.status = 0 → t.tgN = t'.tgN ∧ ∀ i, i < s.n.toNat * s.n.toNat → tgRead t i = tgRead t' i)) ∧
    (exec .decatt s = .next t → exec .decatt s' = .next t' →
      Status.err t.status = Status.err t'.status ∧
      (Status.err t.status = 0 → t.agN = t'.agN ∧ ∀ i, i < s.n.toNat * s.n.toNat → agRead t i = agRead t' i))

/-! ## SAMPLE -/

/-- R191: SAMPLE's result, and all that it leaves; the function `Sample` is the model's `sampleTile`, whose value
SampleMissesAreFlat and SampledTexelClosedForms state. -/
def Obligations.SampleWritesColour : Prop :=
  ∀ s : State, sampleConfigured s → ∃ t, exec .sample s = .next t ∧
    (let u : Rat := (2 * (s.sPx.toNat : Rat) + 1) / (2 * (s.r.toNat : Rat))
     let v : Rat := (2 * (s.sPy.toNat : Rat) + 1) / (2 * (s.r.toNat : Rat))
     let uv := if s.ctrl.getLsbD 0 then symXform s.sSym u v else (u, v)
     let c := sampleTile s s.sTile uv.1 uv.2 s.sWx.toNat s.sWy.toNat s.timeMs.toNat
     t.sRgb.toNat = c.1.r.toNat * 65536 + c.1.g.toNat * 256 + c.1.b.toNat ∧
     StatusAfter s t (Status.tgValid s.status) (Status.agValid s.status) c.2 (Status.esticky s.status) 0) ∧
    SameRegs [.sRgb, .status] s t ∧ SameBuf s t ∧ SameTg s t ∧ SameAg s t ∧ SameFb s t ∧ SameOutside s t

/-- R191, R245: SAMPLE's only error: MISS is cleared, S_RGB keeps its value. -/
def Obligations.SampleBadConfig : Prop :=
  ∀ s : State, ¬ sampleConfigured s → ∃ t, exec .sample s = .next t ∧ RaisedStatus s t false 4 ∧ SameButStatus s t

/-- R182: an absent tile and one with a zero dimension give the placeholder, whatever the coordinates. -/
def Obligations.SampleMissesAreFlat : Prop :=
  ∀ (s : State) (tile : Byte) (u v : Rat) (wx wy time : Nat),
    (texAsset s tile = none ∨ ∃ a, texAsset s tile = some a ∧ (a.width = 0 ∨ a.height = 0)) →
    sampleTile s tile u v wx wy time = (⟨255, 0, 255⟩, true)

/-- R188 with the wave of R185 written out: the texel that a tile is sampled at, in the closed forms, for every rational
u and v. Of the sine's values nothing is assumed (log entry 2). -/
def Obligations.SampledTexelClosedForms : Prop :=
  ∀ (s : State) (tile : Byte) (a : TileAsset) (u v : Rat) (wx wy time : Nat),
    texAsset s tile = some a → a.width ≠ 0 → a.height ≠ 0 →
    sampleTile s tile u v wx wy time =
      (texPix s tile a
        ((((wx : Rat) + u) * (s.repeatSpan.toNat : Rat)
          + (if isWater s tile then ((time % 20000 : Nat) : Rat) * (a.width.toNat : Rat) / 20000 else 0)).floor
            % (a.width.toNat : Int)).toNat
        ((((wy : Rat) + v) * (s.repeatSpan.toNat : Rat)
          + (if isWater s tile then
              Config.sinFn (((time % 720000 : Nat) : Rat) * (1 / 500) + ((wx : Rat) + u) * 5) * 10 * (1 / 500)
                * (a.height.toNat : Rat)
            else 0)).floor
            % (a.height.toNat : Int)).toNat,
       false)

/-- R188, for pixel centres: integer division and remainder only. On a tile that is not water both texel coordinates
have an integer form; on a water tile the column has one. -/
def Obligations.PixelCentreTexelClosedForm : Prop :=
  ∀ (s : State) (tile : Byte) (a : TileAsset) (r px py wx wy time : Nat),
    texAsset s tile = some a → a.width ≠ 0 → a.height ≠ 0 → 1 ≤ r → px < r → py < r →
    (isWater s tile = false →
      sampleTile s tile ((2 * (px : Rat) + 1) / (2 * (r : Rat))) ((2 * (py : Rat) + 1) / (2 * (r : Rat))) wx wy time =
        (texPix s tile a
          ((s.repeatSpan.toNat * (2 * r * wx + (2 * px + 1))) / (2 * r) % a.width.toNat)
          ((s.repeatSpan.toNat * (2 * r * wy + (2 * py + 1))) / (2 * r) % a.height.toNat),
         false)) ∧
    (isWater s tile = true → ∃ texelY, texelY < a.height.toNat ∧
      sampleTile s tile ((2 * (px : Rat) + 1) / (2 * (r : Rat))) ((2 * (py : Rat) + 1) / (2 * (r : Rat))) wx wy time =
        (texPix s tile a
          ((20000 * s.repeatSpan.toNat * (2 * r * wx + (2 * px + 1)) + 2 * r * a.width.toNat * (time % 20000))
            / (40000 * r) % a.width.toNat)
          texelY,
         false))

/-- R194: the scroll of a water tile has period 20000 ms in TIME_MS; the texel column at T and T + 20000 is the same. -/
def Obligations.WaterScrollIsPeriodic : Prop :=
  ∀ (repeatSpan width wx time : Nat) (u : Rat), 1 ≤ width →
    waterScroll (time + 20000) = waterScroll time ∧ 0 ≤ waterScroll time ∧ waterScroll time < 1 ∧
    texelCoord (effU true repeatSpan width wx (time + 20000) u) width =
      texelCoord (effU true repeatSpan width wx time u) width

/-- R189: the eight symmetry codes; the swap comes before the flips. -/
def Obligations.SymmetryCodes : Prop :=
  ∀ u v : Rat,
    symXform 0 u v = (u, v) ∧ symXform 1 u v = (1 - u, v) ∧ symXform 2 u v = (u, 1 - v) ∧
    symXform 3 u v = (1 - u, 1 - v) ∧ symXform 4 u v = (v, u) ∧ symXform 5 u v = (1 - v, u) ∧
    symXform 6 u v = (v, 1 - u) ∧ symXform 7 u v = (1 - v, 1 - u)

/-! ## RENDER -/

/-- R210, R220: RENDER draws every sub-tile pixel of every cell of the region at its place, and all that it leaves. The
function `Pixel` is the model's `pixelAt`, whose value the three statements after RenderErrors state. -/
def Obligations.RenderDrawsRegion : Prop :=
  ∀ s : State, renderConfigured s → gridsMatch s → ∃ t, exec .render s = .next t ∧
    (∀ i j px py, i < s.nvis.toNat → j < s.nvis.toNat → px < s.r.toNat → py < s.r.toNat →
      fbRead t (j * s.r.toNat + py) (i * s.r.toNat + px) =
        (pixelAt .floor s (s.x0.toNat + i) (s.y0.toNat + j) px py).1) ∧
    t.fbSide.toNat = s.nvis.toNat * s.r.toNat ∧
    (Status.miss t.status = true ↔ ∃ i j px py, i < s.nvis.toNat ∧ j < s.nvis.toNat ∧ px < s.r.toNat ∧
      py < s.r.toNat ∧ (pixelAt .floor s (s.x0.toNat + i) (s.y0.toNat + j) px py).2 = true) ∧
    StatusAfter s t (Status.tgValid s.status) (Status.agValid s.status) (Status.miss t.status)
      (Status.esticky s.status) 0 ∧
    SameRegs [.fbSide, .status] s t ∧ SameBuf s t ∧ SameTg s t ∧ SameAg s t ∧ SameOutside s t

/-- R222: the frame is made afresh: after a RENDER every pixel outside it is a free value (log entry 3), whatever FB
held before. -/
def Obligations.RenderFrameIsFresh : Prop :=
  ∀ s : State, renderConfigured s → gridsMatch s → ∃ t, exec .render s = .next t ∧
    ∀ row col, row < 16384 → col < 16384 →
      ¬ (row < s.nvis.toNat * s.r.toNat ∧ col < s.nvis.toNat * s.r.toNat) →
      fbRead t row col = Config.unspecPixel t.draws row col

/-- R246: RENDER raises NoGrid exactly when BadConfig (R245) does not apply and a grid it reads is absent or was decoded
for another N. -/
def Obligations.RenderErrors : Prop :=
  ∀ s : State,
    (¬ renderConfigured s → ∃ t, exec .render s = .next t ∧ RaisedStatus s t false 4 ∧ SameButStatus s t) ∧
    (renderConfigured s → ¬ gridsMatch s →
      ∃ t, exec .render s = .next t ∧ RaisedStatus s t false 5 ∧ SameButStatus s t) ∧
    (renderConfigured s → gridsMatch s → ∃ t, exec .render s = .next t ∧ Status.err t.status = 0)

/-- R223(a), R214: when all four corner alphas of a cell are 255, each of its pixels is a pure sample of the overlay
tile of corner 1, the sentinel 255 included; the base index is not read. -/
def Obligations.SaturatedCellShowsOverlay : Prop :=
  ∀ (mode : Config.BlendRound) (s : State) (x y px py : Nat),
    (cornerCell s x y).alpha = 255 → (cornerCell s (x + 1) y).alpha = 255 →
    (cornerCell s (x + 1) (y + 1)).alpha = 255 → (cornerCell s x (y + 1)).alpha = 255 →
    pixelAt mode s x y px py =
      sampleTile s (cornerCell s x y).overlay (pixelCoords s x y px py).1 (pixelCoords s x y px py).2 x y s.timeMs.toNat

/-- R214, R218: when not all four corner alphas are 255, and the overlay of corner 1 is the sentinel or all four alphas
are 0, each pixel of the cell is a pure sample of the base tile of corner 1. -/
def Obligations.DisabledOverlayShowsBase : Prop :=
  ∀ (mode : Config.BlendRound) (s : State) (x y px py : Nat),
    ¬ ((cornerCell s x y).alpha = 255 ∧ (cornerCell s (x + 1) y).alpha = 255 ∧
       (cornerCell s (x + 1) (y + 1)).alpha = 255 ∧ (cornerCell s x (y + 1)).alpha = 255) →
    ((cornerCell s x y).overlay = 255 ∨
      ((cornerCell s x y).alpha = 0 ∧ (cornerCell s (x + 1) y).alpha = 0 ∧
       (cornerCell s (x + 1) (y + 1)).alpha = 0 ∧ (cornerCell s x (y + 1)).alpha = 0)) →
    pixelAt mode s x y px py =
      sampleTile s (cornerCell s x y).base (pixelCoords s x y px py).1 (pixelCoords s x y px py).2 x y s.timeMs.toNat

/-- R217, R218, R219 in integers: in a cell whose overlay pass is enabled, a pixel whose A satisfies 50·A > 51·R²
blends the two samples channel by channel with weights D − A and A, rounded down, and any other pixel is the base
sample. -/
def Obligations.EnabledOverlayBlends : Prop :=
  ∀ (s : State) (x y px py : Nat),
    let c1 := cornerCell s x y
    let c2 := cornerCell s (x + 1) y
    let c3 := cornerCell s (x + 1) (y + 1)
    let c4 := cornerCell s x (y + 1)
    let num := alphaNumerator s.r.toNat c1.alpha.toNat c2.alpha.toNat c3.alpha.toNat c4.alpha.toNat px py
    let den := alphaDenominator s.r.toNat
    let uv := pixelCoords s x y px py
    let base := sampleTile s c1.base uv.1 uv.2 x y s.timeMs.toNat
    let ov := sampleTile s c1.overlay uv.1 uv.2 x y s.timeMs.toNat
    1 ≤ s.r.toNat → px < s.r.toNat → py < s.r.toNat → c1.overlay ≠ 255 →
    ¬ (c1.alpha = 255 ∧ c2.alpha = 255 ∧ c3.alpha = 255 ∧ c4.alpha = 255) →
    ¬ (c1.alpha = 0 ∧ c2.alpha = 0 ∧ c3.alpha = 0 ∧ c4.alpha = 0) →
    (51 * s.r.toNat * s.r.toNat < 50 * num →
      (pixelAt .floor s x y px py).1.r.toNat = blendInt base.1.r.toNat ov.1.r.toNat num den ∧
      (pixelAt .floor s x y px py).1.g.toNat = blendInt base.1.g.toNat ov.1.g.toNat num den ∧
      (pixelAt .floor s x y px py).1.b.toNat = blendInt base.1.b.toNat ov.1.b.toNat num den ∧
      (pixelAt .floor s x y px py).2 = (base.2 || ov.2)) ∧
    (50 * num ≤ 51 * s.r.toNat * s.r.toNat → pixelAt .floor s x y px py = base)

/-- R217: the bilinear alpha of a pixel centre is A/D, and lies in [0, 1]. -/
def Obligations.BilinearAlphaIsFraction : Prop :=
  ∀ r a1 a2 a3 a4 px py : Nat, 1 ≤ r → px < r → py < r → a1 ≤ 255 → a2 ≤ 255 → a3 ≤ 255 → a4 ≤ 255 →
    bilinearAlpha a1 a2 a3 a4 ((2 * (px : Rat) + 1) / (2 * (r : Rat))) ((2 * (py : Rat) + 1) / (2 * (r : Rat))) =
      (alphaNumerator r a1 a2 a3 a4 px py : Rat) / (alphaDenominator r : Rat) ∧
    alphaNumerator r a1 a2 a3 a4 px py ≤ alphaDenominator r

/-- R219: under either rounding a blended channel lies between the two channels, so the clamp never acts, and with
alpha = 1 it is the overlay's (R223(c)). -/
def Obligations.BlendStaysBetweenChannels : Prop :=
  ∀ (mode : Config.BlendRound) (base ov : Byte) (alpha : Rat), 0 ≤ alpha → alpha ≤ 1 →
    min base.toNat ov.toNat ≤ (blendChannel mode base ov alpha).toNat ∧
    (blendChannel mode base ov alpha).toNat ≤ max base.toNat ov.toNat ∧
    blendChannel mode base ov 1 = ov ∧ blendChannel mode base ov 0 = base

/-- R212, R223(b): the corner one column to the right of column N − 1, or one row below row N − 1, is clamped to the
last column or row, never wrapped; a cell beyond the grid has the corners of the border. -/
def Obligations.CornersClampToEdge : Prop :=
  ∀ n x y : Nat, 1 ≤ n →
    (n - 1 ≤ x → cornerIndex n (x + 1) y = cornerIndex n (n - 1) y ∧ cornerIndex n x y = cornerIndex n (n - 1) y) ∧
    (n - 1 ≤ y → cornerIndex n x (y + 1) = cornerIndex n x (n - 1) ∧ cornerIndex n x y = cornerIndex n x (n - 1)) ∧
    (x < n → y < n → cornerIndex n x y = y * n + x) ∧ cornerIndex n x y < n * n

/-! ## The host's ports -/

/-- R49, R121: a host write to a register other than CMD stores `trunc_w(value)` in an RW register (CTRL `value AND
1`), does nothing to an RO register or at a number above 0x1F, and changes nothing else. (The operation list and the
counter are the model's, log entries 3 and 7.) -/
def Obligations.HostRegisterWrite : Prop :=
  ∀ (s : State) (reg : Byte) (v : BitVec 32) (rest : List HostOp),
    s.inReset = false → s.ops = .wr reg v :: rest → reg ≠ 0 →
    ∃ t, step s = .next t ∧
      (match regOfNumber reg with
       | none => t = { s with ops := rest, draws := s.draws + 1 }
       | some name =>
         (readOnly name = true → t = { s with ops := rest, draws := s.draws + 1 }) ∧
         (readOnly name = false → name = .ctrl → (readReg t name).toNat = v.toNat % 2) ∧
         (readOnly name = false → name ≠ .ctrl → (readReg t name).toNat = v.toNat % 2 ^ regWidth name) ∧
         SameRegs [name] s t ∧ t.buf = s.buf ∧ t.tg = s.tg ∧ t.ag = s.ag ∧ t.fb = s.fb ∧ t.tex = s.tex ∧
         t.replies = s.replies ∧ t.ops = rest ∧ t.inReset = false)

/-- R21: the number of each register, and that no number above 0x1F names one. -/
def Obligations.RegisterNumbers : Prop :=
  (∀ reg : Byte, 0x20 ≤ reg.toNat → regOfNumber reg = none) ∧
  [0x00#8, 0x01#8, 0x02#8, 0x03#8, 0x04#8, 0x05#8, 0x06#8, 0x07#8, 0x08#8, 0x09#8, 0x0A#8, 0x0B#8, 0x0C#8, 0x0D#8,
    0x0E#8, 0x0F#8, 0x10#8, 0x11#8, 0x12#8, 0x13#8, 0x14#8, 0x15#8, 0x16#8, 0x17#8].map regOfNumber =
    [some .cmd, some .status, some .len, some .n, some .r, some .timeMs, some .ctrl, some .repeatSpan, some .x0,
      some .y0, some .nvis, some .key, some .pos, some .sdata, some .sTile, some .sPx, some .sPy, some .sWx,
      some .sWy, some .sSym, some .sRgb, some .fbSide, some .tgN, some .agN] ∧
  ∀ k : Fin 8, regOfNumber (BitVec.ofNat 8 (0x18 + k.val)) = some (.wmask k)

/-- R122: a host read answers the register's value, 0 for CMD and above 0x1F, and has no side effect. (The list of
answers, the operation list and the counter are the model's, log entries 3 and 7.) -/
def Obligations.HostRegisterRead : Prop :=
  ∀ (s : State) (reg : Byte) (rest : List HostOp), s.inReset = false → s.ops = .rd reg :: rest →
    ∃ v, step s = .next { s with ops := rest, draws := s.draws + 1, replies := s.replies ++ [.word v] } ∧
      (∀ name, regOfNumber reg = some name → v = readReg s name) ∧
      (reg = 0 ∨ 0x20 ≤ reg.toNat → v = 0)

/-- R61: BUFW writes its one byte and nothing else; BUFR, TGR, AGR and FBR answer what their space reads as and change
nothing. (What a read of unwritten content answers is a free value of this step, log entry 3; the list of answers and
the operation list are the model's, log entry 7.) -/
def Obligations.MemoryPorts : Prop :=
  ∀ (s : State) (rest : List HostOp), s.inReset = false →
    let s' : State := { s with ops := rest, draws := s.draws + 1 }
    (∀ a v, a < 262144 → s.ops = .bufW a v :: rest →
      ∃ t, step s = .next t ∧ bufRead t a = v ∧ (∀ b, b ≠ a → bufRead t b = bufRead s' b) ∧
        t = { s' with buf := t.buf }) ∧
    (∀ a, a < 262144 → s.ops = .bufR a :: rest →
      step s = .next { s' with replies := s.replies ++ [.byte (bufRead s' a)] }) ∧
    (∀ i, i < 65536 → s.ops = .tgR i :: rest →
      step s = .next { s' with replies := s.replies ++ [.cell (tgRead s' i)] }) ∧
    (∀ i, i < 65536 → s.ops = .agR i :: rest →
      step s = .next { s' with replies := s.replies ++ [.byte (agRead s' i)] }) ∧
    (∀ row col, row < 16384 → col < 16384 → s.ops = .fbR row col :: rest →
      step s = .next { s' with replies := s.replies ++ [.pixel (fbRead s' row col)] })

/-- R61, 93 U7: outside reset a port operation is refused exactly when its address lies outside its space, and nothing
else is ever refused; no step faults. While reset is asserted no port responds (R270): that an out-of-range operation
then has no effect, and is not refused, is the model's choice, log entries 6 and 11. -/
def Obligations.RefusedExactlyOutOfRange : Prop :=
  ∀ s : State, (∀ f, step s ≠ .fault f) ∧
    ((∃ reason, step s = .refused reason) ↔
      s.inReset = false ∧ ∃ op rest, s.ops = op :: rest ∧
        ((∃ a v, op = .bufW a v ∧ 262144 ≤ a) ∨ (∃ a, op = .bufR a ∧ 262144 ≤ a) ∨
         (∃ i, op = .tgR i ∧ 65536 ≤ i) ∨ (∃ i, op = .agR i ∧ 65536 ≤ i) ∨
         (∃ row col, op = .fbR row col ∧ (16384 ≤ row ∨ 16384 ≤ col))))

/-- R44: the environment's load and unload change one tile of TEX and nothing of SXD. (That they are operations of the
list is the model's, log entries 3, 5 and 7.) -/
def Obligations.TextureLoads : Prop :=
  ∀ (s : State) (tile : Byte) (asset : TileAsset) (rest : List HostOp),
    (s.ops = .texLoad tile asset :: rest → ∃ t, step s = .next t ∧ texAsset t tile = some asset ∧
      (∀ other, other ≠ tile → texAsset t other = texAsset s other) ∧
      t = { s with ops := rest, draws := s.draws + 1, tex := t.tex }) ∧
    (s.ops = .texUnload tile :: rest → ∃ t, step s = .next t ∧ texAsset t tile = none ∧
      (∀ other, other ≠ tile → texAsset t other = texAsset s other) ∧
      t = { s with ops := rest, draws := s.draws + 1, tex := t.tex })

/-- R39: tile t is water exactly when bit `t mod 32` of WMASK`(t div 32)` is 1, and a host write of one mask register
decides exactly its 32 tiles. -/
def Obligations.WaterMaskBits : Prop :=
  ∀ (s : State) (k : Fin 8) (v : BitVec 32) (tile : Byte),
    (tile.toNat / 32 = k.val → isWater s tile = (readReg s (.wmask k)).getLsbD (tile.toNat % 32)) ∧
    isWater (storeReg s (.wmask k) v) tile =
      if tile.toNat / 32 = k.val then v.getLsbD (tile.toNat % 32) else isWater s tile
end

