-- ==== Sys2Proof/Laws/Flags.lean ====
section
/-! SUPPORT. STATUS field by field: what each writer leaves in each field. -/
namespace Sys2Proof.Machine.Status

/-- A bit write changes its own bit and no other. -/
theorem getLsbD_withBit (i : Nat) (hi : i < 32) (b : Bool) (w : BitVec 32) (j : Nat) :
    (withBit i b w).getLsbD j = if j = i then b else w.getLsbD j := by
  unfold withBit
  by_cases hj : j = i
  · subst hj; cases b <;> simp [hi]
  · have hs : ((1#32) <<< i).getLsbD j = false := by
      rw [BitVec.getLsbD_shiftLeft, BitVec.getLsbD_one]
      by_cases hlt : j < i
      · simp [hlt]
      · have : ¬ (j - i = 0) := by omega
        simp [this]
    cases b
    · simp only [Bool.false_eq_true, if_false, hj, BitVec.getLsbD_and, BitVec.getLsbD_not, hs]
      by_cases h32 : j < 32
      · simp [h32]
      · simp [h32, BitVec.getLsbD_of_ge w j (by omega)]
    · simp [hj, hs]

/-- An ERR write changes bits 7:4 and no other. -/
theorem getLsbD_withErr (e : ErrCode) (w : BitVec 32) (j : Nat) :
    (withErr e w).getLsbD j = if 4 ≤ j ∧ j < 8 then e.code.getLsbD (j - 4) else w.getLsbD j := by
  by_cases h32 : j < 32
  · have hm : ∀ k, k < 32 → (0xF0#32).getLsbD k = decide (4 ≤ k ∧ k < 8) := by decide
    simp only [withErr, BitVec.getLsbD_or, BitVec.getLsbD_and, BitVec.getLsbD_not, h32, decide_true, Bool.true_and,
      hm j h32, BitVec.getLsbD_shiftLeft, BitVec.getLsbD_setWidth]
    by_cases h : 4 ≤ j ∧ j < 8
    · simp [h, show ¬ j < 4 by omega, show j - 4 < 32 by omega]
    · rw [if_neg h]
      by_cases h4 : j < 4
      · simp [h4, show ¬ (4 ≤ j) by omega]
      · simp [show ¬ j < 8 by omega, BitVec.getLsbD_of_ge e.code (j - 4) (by omega)]
  · rw [BitVec.getLsbD_of_ge _ _ (by omega), if_neg (by omega), BitVec.getLsbD_of_ge _ _ (by omega)]

theorem err_eq_of_bits {w w' : BitVec 32} (h : ∀ j, 4 ≤ j → j < 8 → w.getLsbD j = w'.getLsbD j) : err w = err w' := by
  apply BitVec.eq_of_getLsbD_eq
  intro i hi
  simpa [err, hi] using h (4 + i) (by omega) (by omega)

theorem reserved_eq_of_bits {w w' : BitVec 32} (h : ∀ j, 8 ≤ j → w.getLsbD j = w'.getLsbD j) :
    reserved w = reserved w' := by
  apply BitVec.eq_of_getLsbD_eq
  intro i hi
  simpa [reserved, hi] using h (8 + i) (by omega)

theorem withBit_same {i : Nat} (hi : i < 32) (b : Bool) (w : BitVec 32) : (withBit i b w).getLsbD i = b :=
  (getLsbD_withBit i hi b w i).trans (if_pos rfl)

theorem withBit_other {i j : Nat} (hi : i < 32) (hj : j ≠ i) (b : Bool) (w : BitVec 32) :
    (withBit i b w).getLsbD j = w.getLsbD j :=
  (getLsbD_withBit i hi b w j).trans (if_neg hj)

theorem withErr_other {j : Nat} (hj : j < 4) (e : ErrCode) (w : BitVec 32) :
    (withErr e w).getLsbD j = w.getLsbD j :=
  (getLsbD_withErr e w j).trans (if_neg (by omega))

/-! ### `withBit` on the fields -/

variable (w : BitVec 32)

@[simp] theorem err_withBit {i : Nat} (hi : i < 4) (b : Bool) : err (withBit i b w) = err w :=
  err_eq_of_bits fun j h _ => by rw [getLsbD_withBit i (by omega), if_neg (by omega)]

@[simp] theorem reserved_withBit {i : Nat} (hi : i < 4) (b : Bool) : reserved (withBit i b w) = reserved w :=
  reserved_eq_of_bits fun j h => by rw [getLsbD_withBit i (by omega), if_neg (by omega)]

/-! ### One lemma per field per writer -/

@[simp] theorem tgValid_setTgValid : tgValid (setTgValid w) = true := withBit_same (by decide) _ w
@[simp] theorem agValid_setTgValid : agValid (setTgValid w) = agValid w :=
  withBit_other (by decide) (by decide) _ w
@[simp] theorem miss_setTgValid : miss (setTgValid w) = miss w :=
  withBit_other (by decide) (by decide) _ w
@[simp] theorem esticky_setTgValid : esticky (setTgValid w) = esticky w :=
  withBit_other (by decide) (by decide) _ w
@[simp] theorem err_setTgValid : err (setTgValid w) = err w := err_withBit w (by decide) _
@[simp] theorem reserved_setTgValid : reserved (setTgValid w) = reserved w := reserved_withBit w (by decide) _

@[simp] theorem tgValid_setAgValid : tgValid (setAgValid w) = tgValid w :=
  withBit_other (by decide) (by decide) _ w
@[simp] theorem agValid_setAgValid : agValid (setAgValid w) = true := withBit_same (by decide) _ w
@[simp] theorem miss_setAgValid : miss (setAgValid w) = miss w :=
  withBit_other (by decide) (by decide) _ w
@[simp] theorem esticky_setAgValid : esticky (setAgValid w) = esticky w :=
  withBit_other (by decide) (by decide) _ w
@[simp] theorem err_setAgValid : err (setAgValid w) = err w := err_withBit w (by decide) _
@[simp] theorem reserved_setAgValid : reserved (setAgValid w) = reserved w := reserved_withBit w (by decide) _

@[simp] theorem tgValid_withMiss (b : Bool) : tgValid (withMiss b w) = tgValid w :=
  withBit_other (by decide) (by decide) _ w
@[simp] theorem agValid_withMiss (b : Bool) : agValid (withMiss b w) = agValid w :=
  withBit_other (by decide) (by decide) _ w
@[simp] theorem miss_withMiss (b : Bool) : miss (withMiss b w) = b := withBit_same (by decide) _ w
@[simp] theorem esticky_withMiss (b : Bool) : esticky (withMiss b w) = esticky w :=
  withBit_other (by decide) (by decide) _ w
@[simp] theorem err_withMiss (b : Bool) : err (withMiss b w) = err w := err_withBit w (by decide) _
@[simp] theorem reserved_withMiss (b : Bool) : reserved (withMiss b w) = reserved w := reserved_withBit w (by decide) _

@[simp] theorem tgValid_setSticky : tgValid (setSticky w) = tgValid w :=
  withBit_other (by decide) (by decide) _ w
@[simp] theorem agValid_setSticky : agValid (setSticky w) = agValid w :=
  withBit_other (by decide) (by decide) _ w
@[simp] theorem miss_setSticky : miss (setSticky w) = miss w :=
  withBit_other (by decide) (by decide) _ w
@[simp] theorem esticky_setSticky : esticky (setSticky w) = true := withBit_same (by decide) _ w
@[simp] theorem err_setSticky : err (setSticky w) = err w := err_withBit w (by decide) _
@[simp] theorem reserved_setSticky : reserved (setSticky w) = reserved w := reserved_withBit w (by decide) _

@[simp] theorem tgValid_withErr (e : ErrCode) : tgValid (withErr e w) = tgValid w := withErr_other (by decide) e w
@[simp] theorem agValid_withErr (e : ErrCode) : agValid (withErr e w) = agValid w := withErr_other (by decide) e w
@[simp] theorem miss_withErr (e : ErrCode) : miss (withErr e w) = miss w := withErr_other (by decide) e w
@[simp] theorem esticky_withErr (e : ErrCode) : esticky (withErr e w) = esticky w := withErr_other (by decide) e w
@[simp] theorem err_withErr (e : ErrCode) : err (withErr e w) = e.code := by
  apply BitVec.eq_of_getLsbD_eq
  intro i hi
  have h := getLsbD_withErr e w (4 + i)
  rw [if_pos (by omega), Nat.add_sub_cancel_left] at h
  simpa [err, hi] using h
@[simp] theorem reserved_withErr (e : ErrCode) : reserved (withErr e w) = reserved w :=
  reserved_eq_of_bits fun j h => by rw [getLsbD_withErr, if_neg (by omega)]

end Sys2Proof.Machine.Status
end

