-- ==== Sys2Proof/Laws/Memory.lean ====
section
/-! SUPPORT. The memory operations: what each leaves at every address, and that each keeps the canonical form. -/
namespace Sys2Proof.Machine

variable {α : Type}

/-! ### Lookup -/

@[simp] theorem Memory.lookup_nil (a : Nat) : Memory.lookup ([] : Memory α) a = none := rfl

theorem Memory.lookup_append (m m' : Memory α) (a : Nat) :
    Memory.lookup (m ++ m' : List _) a = (Memory.lookup m a).or (Memory.lookup m' a) := by
  induction m with
  | nil => simp
  | cons p m ih => obtain ⟨k, v⟩ := p; by_cases h : k = a <;> simp [Memory.lookup, h, ih]

theorem Memory.lookup_filter (p : Nat → Bool) (m : Memory α) (a : Nat) :
    Memory.lookup (m.filter (fun e => p e.1)) a = if p a then Memory.lookup m a else none := by
  induction m with
  | nil => simp
  | cons e m ih =>
    obtain ⟨k, v⟩ := e
    by_cases hk : k = a
    · subst hk; by_cases hp : p k <;> simp [Memory.lookup, hp, ih]
    · by_cases hp : p k <;> simp [Memory.lookup, hp, hk, ih]

theorem Memory.lookup_block (base : Nat) (vs : List α) (a : Nat) :
    Memory.lookup (Memory.block base vs) a = if base ≤ a then vs[a - base]? else none := by
  induction vs generalizing base with
  | nil => simp [Memory.block]
  | cons v vs ih =>
    rcases Nat.lt_trichotomy base a with h | h | h
    · obtain ⟨d, rfl⟩ : ∃ d, a = base + 1 + d := ⟨a - (base + 1), by omega⟩
      have hd : base + 1 + d - base = d + 1 := by omega
      simp [Memory.block, Memory.lookup, ih, show base ≠ base + 1 + d by omega, show base ≤ base + 1 + d by omega, hd]
    · subst h; simp [Memory.block, Memory.lookup]
    · simp [Memory.block, Memory.lookup, ih, show base ≠ a by omega, show ¬ base ≤ a by omega,
        show ¬ base + 1 ≤ a by omega]

/-- A block write leaves its contents at its addresses, and every other address as it was. -/
theorem Memory.lookup_writeBlock (m : Memory α) (base : Nat) (vs : List α) (a : Nat) :
    Memory.lookup (Memory.writeBlock m base vs) a =
      if base ≤ a ∧ a < base + vs.length then vs[a - base]? else Memory.lookup m a := by
  have h1 := Memory.lookup_filter (fun k => decide (k < base)) m a
  have h2 := Memory.lookup_filter (fun k => decide (base + vs.length ≤ k)) m a
  simp only [Memory.writeBlock, Memory.lookup_append, Memory.lookup_block, h1, h2]
  by_cases hb : base ≤ a
  · by_cases he : a < base + vs.length
    · have : a - base < vs.length := by omega
      simp [hb, he, show ¬ a < base by omega, List.getElem?_eq_getElem this]
    · simp [hb, he, show ¬ a < base by omega, show base + vs.length ≤ a by omega,
        List.getElem?_eq_none (show vs.length ≤ a - base by omega)]
  · simp [hb, show a < base by omega, show ¬ base + vs.length ≤ a by omega]

theorem Memory.lookup_write (m : Memory α) (k : Nat) (v : α) (a : Nat) :
    Memory.lookup (Memory.write m k v) a = if a = k then some v else Memory.lookup m a := by
  rw [Memory.write, Memory.lookup_writeBlock]
  by_cases h : a = k
  · subst h; simp
  · rw [if_neg (by simp; omega), if_neg h]

theorem Memory.lookup_erase (m : Memory α) (k a : Nat) :
    Memory.lookup (Memory.erase m k) a = if a = k then none else Memory.lookup m a := by
  rw [Memory.erase, Memory.lookup_filter (fun e => decide (e ≠ k))]
  by_cases h : a = k <;> simp [h]

/-! ### Canonical form and bounds -/

theorem Memory.mem_block {base : Nat} {vs : List α} {p : Nat × α} (h : p ∈ Memory.block base vs) :
    base ≤ p.1 ∧ p.1 < base + vs.length := by
  induction vs generalizing base with
  | nil => simp [Memory.block] at h
  | cons v vs ih =>
    rcases List.mem_cons.1 h with rfl | h
    · simp
    · have := ih h; simp; omega

theorem Memory.wf_block (base : Nat) (vs : List α) : Memory.wf (Memory.block base vs) := by
  induction vs generalizing base with
  | nil => exact List.Pairwise.nil
  | cons v vs ih => exact List.Pairwise.cons (fun p hp => (Memory.mem_block hp).1) (ih _)

/-- A block write keeps the canonical form. -/
theorem Memory.wf_writeBlock {m : Memory α} (h : Memory.wf m) (base : Nat) (vs : List α) :
    Memory.wf (Memory.writeBlock m base vs) := by
  refine List.pairwise_append.2 ⟨List.pairwise_append.2 ⟨h.filter _, Memory.wf_block _ _, ?_⟩, h.filter _, ?_⟩
  · intro p hp q hq
    have h1 := (Memory.mem_block hq).1
    simp only [List.mem_filter, decide_eq_true_eq] at hp
    omega
  · intro p hp q hq
    simp only [List.mem_filter, decide_eq_true_eq] at hq
    rcases List.mem_append.1 hp with hp | hp
    · simp only [List.mem_filter, decide_eq_true_eq] at hp; omega
    · have := (Memory.mem_block hp).2; omega

theorem Memory.wf_write {m : Memory α} (h : Memory.wf m) (a : Nat) (v : α) : Memory.wf (Memory.write m a v) :=
  Memory.wf_writeBlock h a [v]

theorem Memory.wf_erase {m : Memory α} (h : Memory.wf m) (a : Nat) : Memory.wf (Memory.erase m a) := h.filter _

theorem Memory.below_writeBlock {m : Memory α} {cap : Nat} (h : Memory.below cap m) (base : Nat) (vs : List α)
    (hb : base + vs.length ≤ cap) : Memory.below cap (Memory.writeBlock m base vs) := by
  intro p hp
  rcases List.mem_append.1 hp with hp | hp
  · rcases List.mem_append.1 hp with hp | hp
    · exact h p (List.mem_filter.1 hp).1
    · exact lt_of_lt_of_le (Memory.mem_block hp).2 hb
  · exact h p (List.mem_filter.1 hp).1

theorem Memory.below_write {m : Memory α} {cap : Nat} (h : Memory.below cap m) {a : Nat} (v : α) (ha : a < cap) :
    Memory.below cap (Memory.write m a v) := Memory.below_writeBlock h a [v] (by simpa using ha)

theorem Memory.below_erase {m : Memory α} {cap : Nat} (h : Memory.below cap m) (a : Nat) :
    Memory.below cap (Memory.erase m a) := fun p hp => h p (List.mem_filter.1 hp).1

/-- The memories that reset leaves are in canonical form. -/
theorem State.reset_memories_wf : Memory.wf State.reset.buf ∧ Memory.wf State.reset.tg ∧ Memory.wf State.reset.ag ∧
    Memory.wf State.reset.fb ∧ Memory.wf State.reset.tex :=
  ⟨List.Pairwise.nil, List.Pairwise.nil, List.Pairwise.nil, List.Pairwise.nil, List.Pairwise.nil⟩

end Sys2Proof.Machine
end

