-- ==== Sys2Proof/Laws/State.lean ====
section
/-! SUPPORT. What each update of the state leaves in each field: one lemma per field per update, so that no later
proof unfolds a record update. -/
namespace Sys2Proof.Machine

variable (s : State)

/-! ### `setStatus` -/

@[simp] theorem setStatus_status (w : BitVec 32) : (s.setStatus w).status = w := rfl
@[simp] theorem setStatus_len (w : BitVec 32) : (s.setStatus w).len = s.len := rfl
@[simp] theorem setStatus_n (w : BitVec 32) : (s.setStatus w).n = s.n := rfl
@[simp] theorem setStatus_r (w : BitVec 32) : (s.setStatus w).r = s.r := rfl
@[simp] theorem setStatus_timeMs (w : BitVec 32) : (s.setStatus w).timeMs = s.timeMs := rfl
@[simp] theorem setStatus_ctrl (w : BitVec 32) : (s.setStatus w).ctrl = s.ctrl := rfl
@[simp] theorem setStatus_repeatSpan (w : BitVec 32) : (s.setStatus w).repeatSpan = s.repeatSpan := rfl
@[simp] theorem setStatus_x0 (w : BitVec 32) : (s.setStatus w).x0 = s.x0 := rfl
@[simp] theorem setStatus_y0 (w : BitVec 32) : (s.setStatus w).y0 = s.y0 := rfl
@[simp] theorem setStatus_nvis (w : BitVec 32) : (s.setStatus w).nvis = s.nvis := rfl
@[simp] theorem setStatus_key (w : BitVec 32) : (s.setStatus w).key = s.key := rfl
@[simp] theorem setStatus_pos (w : BitVec 32) : (s.setStatus w).pos = s.pos := rfl
@[simp] theorem setStatus_sdata (w : BitVec 32) : (s.setStatus w).sdata = s.sdata := rfl
@[simp] theorem setStatus_sTile (w : BitVec 32) : (s.setStatus w).sTile = s.sTile := rfl
@[simp] theorem setStatus_sPx (w : BitVec 32) : (s.setStatus w).sPx = s.sPx := rfl
@[simp] theorem setStatus_sPy (w : BitVec 32) : (s.setStatus w).sPy = s.sPy := rfl
@[simp] theorem setStatus_sWx (w : BitVec 32) : (s.setStatus w).sWx = s.sWx := rfl
@[simp] theorem setStatus_sWy (w : BitVec 32) : (s.setStatus w).sWy = s.sWy := rfl
@[simp] theorem setStatus_sSym (w : BitVec 32) : (s.setStatus w).sSym = s.sSym := rfl
@[simp] theorem setStatus_sRgb (w : BitVec 32) : (s.setStatus w).sRgb = s.sRgb := rfl
@[simp] theorem setStatus_fbSide (w : BitVec 32) : (s.setStatus w).fbSide = s.fbSide := rfl
@[simp] theorem setStatus_tgN (w : BitVec 32) : (s.setStatus w).tgN = s.tgN := rfl
@[simp] theorem setStatus_agN (w : BitVec 32) : (s.setStatus w).agN = s.agN := rfl
@[simp] theorem setStatus_wmask (w : BitVec 32) : (s.setStatus w).wmask = s.wmask := rfl
@[simp] theorem setStatus_buf (w : BitVec 32) : (s.setStatus w).buf = s.buf := rfl
@[simp] theorem setStatus_tg (w : BitVec 32) : (s.setStatus w).tg = s.tg := rfl
@[simp] theorem setStatus_ag (w : BitVec 32) : (s.setStatus w).ag = s.ag := rfl
@[simp] theorem setStatus_fb (w : BitVec 32) : (s.setStatus w).fb = s.fb := rfl
@[simp] theorem setStatus_tex (w : BitVec 32) : (s.setStatus w).tex = s.tex := rfl
@[simp] theorem setStatus_inReset (w : BitVec 32) : (s.setStatus w).inReset = s.inReset := rfl
@[simp] theorem setStatus_ops (w : BitVec 32) : (s.setStatus w).ops = s.ops := rfl
@[simp] theorem setStatus_replies (w : BitVec 32) : (s.setStatus w).replies = s.replies := rfl
@[simp] theorem setStatus_draws (w : BitVec 32) : (s.setStatus w).draws = s.draws := rfl

/-! ### `setCipher` -/

@[simp] theorem setCipher_status (k : Byte) (p : BitVec 32) : (s.setCipher k p).status = s.status := rfl
@[simp] theorem setCipher_len (k : Byte) (p : BitVec 32) : (s.setCipher k p).len = s.len := rfl
@[simp] theorem setCipher_n (k : Byte) (p : BitVec 32) : (s.setCipher k p).n = s.n := rfl
@[simp] theorem setCipher_r (k : Byte) (p : BitVec 32) : (s.setCipher k p).r = s.r := rfl
@[simp] theorem setCipher_timeMs (k : Byte) (p : BitVec 32) : (s.setCipher k p).timeMs = s.timeMs := rfl
@[simp] theorem setCipher_ctrl (k : Byte) (p : BitVec 32) : (s.setCipher k p).ctrl = s.ctrl := rfl
@[simp] theorem setCipher_repeatSpan (k : Byte) (p : BitVec 32) : (s.setCipher k p).repeatSpan = s.repeatSpan := rfl
@[simp] theorem setCipher_x0 (k : Byte) (p : BitVec 32) : (s.setCipher k p).x0 = s.x0 := rfl
@[simp] theorem setCipher_y0 (k : Byte) (p : BitVec 32) : (s.setCipher k p).y0 = s.y0 := rfl
@[simp] theorem setCipher_nvis (k : Byte) (p : BitVec 32) : (s.setCipher k p).nvis = s.nvis := rfl
@[simp] theorem setCipher_key (k : Byte) (p : BitVec 32) : (s.setCipher k p).key = k := rfl
@[simp] theorem setCipher_pos (k : Byte) (p : BitVec 32) : (s.setCipher k p).pos = p := rfl
@[simp] theorem setCipher_sdata (k : Byte) (p : BitVec 32) : (s.setCipher k p).sdata = s.sdata := rfl
@[simp] theorem setCipher_sTile (k : Byte) (p : BitVec 32) : (s.setCipher k p).sTile = s.sTile := rfl
@[simp] theorem setCipher_sPx (k : Byte) (p : BitVec 32) : (s.setCipher k p).sPx = s.sPx := rfl
@[simp] theorem setCipher_sPy (k : Byte) (p : BitVec 32) : (s.setCipher k p).sPy = s.sPy := rfl
@[simp] theorem setCipher_sWx (k : Byte) (p : BitVec 32) : (s.setCipher k p).sWx = s.sWx := rfl
@[simp] theorem setCipher_sWy (k : Byte) (p : BitVec 32) : (s.setCipher k p).sWy = s.sWy := rfl
@[simp] theorem setCipher_sSym (k : Byte) (p : BitVec 32) : (s.setCipher k p).sSym = s.sSym := rfl
@[simp] theorem setCipher_sRgb (k : Byte) (p : BitVec 32) : (s.setCipher k p).sRgb = s.sRgb := rfl
@[simp] theorem setCipher_fbSide (k : Byte) (p : BitVec 32) : (s.setCipher k p).fbSide = s.fbSide := rfl
@[simp] theorem setCipher_tgN (k : Byte) (p : BitVec 32) : (s.setCipher k p).tgN = s.tgN := rfl
@[simp] theorem setCipher_agN (k : Byte) (p : BitVec 32) : (s.setCipher k p).agN = s.agN := rfl
@[simp] theorem setCipher_wmask (k : Byte) (p : BitVec 32) : (s.setCipher k p).wmask = s.wmask := rfl
@[simp] theorem setCipher_buf (k : Byte) (p : BitVec 32) : (s.setCipher k p).buf = s.buf := rfl
@[simp] theorem setCipher_tg (k : Byte) (p : BitVec 32) : (s.setCipher k p).tg = s.tg := rfl
@[simp] theorem setCipher_ag (k : Byte) (p : BitVec 32) : (s.setCipher k p).ag = s.ag := rfl
@[simp] theorem setCipher_fb (k : Byte) (p : BitVec 32) : (s.setCipher k p).fb = s.fb := rfl
@[simp] theorem setCipher_tex (k : Byte) (p : BitVec 32) : (s.setCipher k p).tex = s.tex := rfl
@[simp] theorem setCipher_inReset (k : Byte) (p : BitVec 32) : (s.setCipher k p).inReset = s.inReset := rfl
@[simp] theorem setCipher_ops (k : Byte) (p : BitVec 32) : (s.setCipher k p).ops = s.ops := rfl
@[simp] theorem setCipher_replies (k : Byte) (p : BitVec 32) : (s.setCipher k p).replies = s.replies := rfl
@[simp] theorem setCipher_draws (k : Byte) (p : BitVec 32) : (s.setCipher k p).draws = s.draws := rfl

/-! ### `setSdata` -/

@[simp] theorem setSdata_status (v : Byte) : (s.setSdata v).status = s.status := rfl
@[simp] theorem setSdata_len (v : Byte) : (s.setSdata v).len = s.len := rfl
@[simp] theorem setSdata_n (v : Byte) : (s.setSdata v).n = s.n := rfl
@[simp] theorem setSdata_r (v : Byte) : (s.setSdata v).r = s.r := rfl
@[simp] theorem setSdata_timeMs (v : Byte) : (s.setSdata v).timeMs = s.timeMs := rfl
@[simp] theorem setSdata_ctrl (v : Byte) : (s.setSdata v).ctrl = s.ctrl := rfl
@[simp] theorem setSdata_repeatSpan (v : Byte) : (s.setSdata v).repeatSpan = s.repeatSpan := rfl
@[simp] theorem setSdata_x0 (v : Byte) : (s.setSdata v).x0 = s.x0 := rfl
@[simp] theorem setSdata_y0 (v : Byte) : (s.setSdata v).y0 = s.y0 := rfl
@[simp] theorem setSdata_nvis (v : Byte) : (s.setSdata v).nvis = s.nvis := rfl
@[simp] theorem setSdata_key (v : Byte) : (s.setSdata v).key = s.key := rfl
@[simp] theorem setSdata_pos (v : Byte) : (s.setSdata v).pos = s.pos := rfl
@[simp] theorem setSdata_sdata (v : Byte) : (s.setSdata v).sdata = v := rfl
@[simp] theorem setSdata_sTile (v : Byte) : (s.setSdata v).sTile = s.sTile := rfl
@[simp] theorem setSdata_sPx (v : Byte) : (s.setSdata v).sPx = s.sPx := rfl
@[simp] theorem setSdata_sPy (v : Byte) : (s.setSdata v).sPy = s.sPy := rfl
@[simp] theorem setSdata_sWx (v : Byte) : (s.setSdata v).sWx = s.sWx := rfl
@[simp] theorem setSdata_sWy (v : Byte) : (s.setSdata v).sWy = s.sWy := rfl
@[simp] theorem setSdata_sSym (v : Byte) : (s.setSdata v).sSym = s.sSym := rfl
@[simp] theorem setSdata_sRgb (v : Byte) : (s.setSdata v).sRgb = s.sRgb := rfl
@[simp] theorem setSdata_fbSide (v : Byte) : (s.setSdata v).fbSide = s.fbSide := rfl
@[simp] theorem setSdata_tgN (v : Byte) : (s.setSdata v).tgN = s.tgN := rfl
@[simp] theorem setSdata_agN (v : Byte) : (s.setSdata v).agN = s.agN := rfl
@[simp] theorem setSdata_wmask (v : Byte) : (s.setSdata v).wmask = s.wmask := rfl
@[simp] theorem setSdata_buf (v : Byte) : (s.setSdata v).buf = s.buf := rfl
@[simp] theorem setSdata_tg (v : Byte) : (s.setSdata v).tg = s.tg := rfl
@[simp] theorem setSdata_ag (v : Byte) : (s.setSdata v).ag = s.ag := rfl
@[simp] theorem setSdata_fb (v : Byte) : (s.setSdata v).fb = s.fb := rfl
@[simp] theorem setSdata_tex (v : Byte) : (s.setSdata v).tex = s.tex := rfl
@[simp] theorem setSdata_inReset (v : Byte) : (s.setSdata v).inReset = s.inReset := rfl
@[simp] theorem setSdata_ops (v : Byte) : (s.setSdata v).ops = s.ops := rfl
@[simp] theorem setSdata_replies (v : Byte) : (s.setSdata v).replies = s.replies := rfl
@[simp] theorem setSdata_draws (v : Byte) : (s.setSdata v).draws = s.draws := rfl

/-! ### `setBuf` -/

@[simp] theorem setBuf_status (m : Memory Byte) : (s.setBuf m).status = s.status := rfl
@[simp] theorem setBuf_len (m : Memory Byte) : (s.setBuf m).len = s.len := rfl
@[simp] theorem setBuf_n (m : Memory Byte) : (s.setBuf m).n = s.n := rfl
@[simp] theorem setBuf_r (m : Memory Byte) : (s.setBuf m).r = s.r := rfl
@[simp] theorem setBuf_timeMs (m : Memory Byte) : (s.setBuf m).timeMs = s.timeMs := rfl
@[simp] theorem setBuf_ctrl (m : Memory Byte) : (s.setBuf m).ctrl = s.ctrl := rfl
@[simp] theorem setBuf_repeatSpan (m : Memory Byte) : (s.setBuf m).repeatSpan = s.repeatSpan := rfl
@[simp] theorem setBuf_x0 (m : Memory Byte) : (s.setBuf m).x0 = s.x0 := rfl
@[simp] theorem setBuf_y0 (m : Memory Byte) : (s.setBuf m).y0 = s.y0 := rfl
@[simp] theorem setBuf_nvis (m : Memory Byte) : (s.setBuf m).nvis = s.nvis := rfl
@[simp] theorem setBuf_key (m : Memory Byte) : (s.setBuf m).key = s.key := rfl
@[simp] theorem setBuf_pos (m : Memory Byte) : (s.setBuf m).pos = s.pos := rfl
@[simp] theorem setBuf_sdata (m : Memory Byte) : (s.setBuf m).sdata = s.sdata := rfl
@[simp] theorem setBuf_sTile (m : Memory Byte) : (s.setBuf m).sTile = s.sTile := rfl
@[simp] theorem setBuf_sPx (m : Memory Byte) : (s.setBuf m).sPx = s.sPx := rfl
@[simp] theorem setBuf_sPy (m : Memory Byte) : (s.setBuf m).sPy = s.sPy := rfl
@[simp] theorem setBuf_sWx (m : Memory Byte) : (s.setBuf m).sWx = s.sWx := rfl
@[simp] theorem setBuf_sWy (m : Memory Byte) : (s.setBuf m).sWy = s.sWy := rfl
@[simp] theorem setBuf_sSym (m : Memory Byte) : (s.setBuf m).sSym = s.sSym := rfl
@[simp] theorem setBuf_sRgb (m : Memory Byte) : (s.setBuf m).sRgb = s.sRgb := rfl
@[simp] theorem setBuf_fbSide (m : Memory Byte) : (s.setBuf m).fbSide = s.fbSide := rfl
@[simp] theorem setBuf_tgN (m : Memory Byte) : (s.setBuf m).tgN = s.tgN := rfl
@[simp] theorem setBuf_agN (m : Memory Byte) : (s.setBuf m).agN = s.agN := rfl
@[simp] theorem setBuf_wmask (m : Memory Byte) : (s.setBuf m).wmask = s.wmask := rfl
@[simp] theorem setBuf_buf (m : Memory Byte) : (s.setBuf m).buf = m := rfl
@[simp] theorem setBuf_tg (m : Memory Byte) : (s.setBuf m).tg = s.tg := rfl
@[simp] theorem setBuf_ag (m : Memory Byte) : (s.setBuf m).ag = s.ag := rfl
@[simp] theorem setBuf_fb (m : Memory Byte) : (s.setBuf m).fb = s.fb := rfl
@[simp] theorem setBuf_tex (m : Memory Byte) : (s.setBuf m).tex = s.tex := rfl
@[simp] theorem setBuf_inReset (m : Memory Byte) : (s.setBuf m).inReset = s.inReset := rfl
@[simp] theorem setBuf_ops (m : Memory Byte) : (s.setBuf m).ops = s.ops := rfl
@[simp] theorem setBuf_replies (m : Memory Byte) : (s.setBuf m).replies = s.replies := rfl
@[simp] theorem setBuf_draws (m : Memory Byte) : (s.setBuf m).draws = s.draws := rfl

/-! ### `setTerrain` -/

@[simp] theorem setTerrain_status (m : Memory TerrainCell) (n : BitVec 16) : (s.setTerrain m n).status = s.status := rfl
@[simp] theorem setTerrain_len (m : Memory TerrainCell) (n : BitVec 16) : (s.setTerrain m n).len = s.len := rfl
@[simp] theorem setTerrain_n (m : Memory TerrainCell) (n : BitVec 16) : (s.setTerrain m n).n = s.n := rfl
@[simp] theorem setTerrain_r (m : Memory TerrainCell) (n : BitVec 16) : (s.setTerrain m n).r = s.r := rfl
@[simp] theorem setTerrain_timeMs (m : Memory TerrainCell) (n : BitVec 16) : (s.setTerrain m n).timeMs = s.timeMs := rfl
@[simp] theorem setTerrain_ctrl (m : Memory TerrainCell) (n : BitVec 16) : (s.setTerrain m n).ctrl = s.ctrl := rfl
@[simp] theorem setTerrain_repeatSpan (m : Memory TerrainCell) (n : BitVec 16) : (s.setTerrain m n).repeatSpan = s.repeatSpan := rfl
@[simp] theorem setTerrain_x0 (m : Memory TerrainCell) (n : BitVec 16) : (s.setTerrain m n).x0 = s.x0 := rfl
@[simp] theorem setTerrain_y0 (m : Memory TerrainCell) (n : BitVec 16) : (s.setTerrain m n).y0 = s.y0 := rfl
@[simp] theorem setTerrain_nvis (m : Memory TerrainCell) (n : BitVec 16) : (s.setTerrain m n).nvis = s.nvis := rfl
@[simp] theorem setTerrain_key (m : Memory TerrainCell) (n : BitVec 16) : (s.setTerrain m n).key = s.key := rfl
@[simp] theorem setTerrain_pos (m : Memory TerrainCell) (n : BitVec 16) : (s.setTerrain m n).pos = s.pos := rfl
@[simp] theorem setTerrain_sdata (m : Memory TerrainCell) (n : BitVec 16) : (s.setTerrain m n).sdata = s.sdata := rfl
@[simp] theorem setTerrain_sTile (m : Memory TerrainCell) (n : BitVec 16) : (s.setTerrain m n).sTile = s.sTile := rfl
@[simp] theorem setTerrain_sPx (m : Memory TerrainCell) (n : BitVec 16) : (s.setTerrain m n).sPx = s.sPx := rfl
@[simp] theorem setTerrain_sPy (m : Memory TerrainCell) (n : BitVec 16) : (s.setTerrain m n).sPy = s.sPy := rfl
@[simp] theorem setTerrain_sWx (m : Memory TerrainCell) (n : BitVec 16) : (s.setTerrain m n).sWx = s.sWx := rfl
@[simp] theorem setTerrain_sWy (m : Memory TerrainCell) (n : BitVec 16) : (s.setTerrain m n).sWy = s.sWy := rfl
@[simp] theorem setTerrain_sSym (m : Memory TerrainCell) (n : BitVec 16) : (s.setTerrain m n).sSym = s.sSym := rfl
@[simp] theorem setTerrain_sRgb (m : Memory TerrainCell) (n : BitVec 16) : (s.setTerrain m n).sRgb = s.sRgb := rfl
@[simp] theorem setTerrain_fbSide (m : Memory TerrainCell) (n : BitVec 16) : (s.setTerrain m n).fbSide = s.fbSide := rfl
@[simp] theorem setTerrain_tgN (m : Memory TerrainCell) (n : BitVec 16) : (s.setTerrain m n).tgN = n := rfl
@[simp] theorem setTerrain_agN (m : Memory TerrainCell) (n : BitVec 16) : (s.setTerrain m n).agN = s.agN := rfl
@[simp] theorem setTerrain_wmask (m : Memory TerrainCell) (n : BitVec 16) : (s.setTerrain m n).wmask = s.wmask := rfl
@[simp] theorem setTerrain_buf (m : Memory TerrainCell) (n : BitVec 16) : (s.setTerrain m n).buf = s.buf := rfl
@[simp] theorem setTerrain_tg (m : Memory TerrainCell) (n : BitVec 16) : (s.setTerrain m n).tg = m := rfl
@[simp] theorem setTerrain_ag (m : Memory TerrainCell) (n : BitVec 16) : (s.setTerrain m n).ag = s.ag := rfl
@[simp] theorem setTerrain_fb (m : Memory TerrainCell) (n : BitVec 16) : (s.setTerrain m n).fb = s.fb := rfl
@[simp] theorem setTerrain_tex (m : Memory TerrainCell) (n : BitVec 16) : (s.setTerrain m n).tex = s.tex := rfl
@[simp] theorem setTerrain_inReset (m : Memory TerrainCell) (n : BitVec 16) : (s.setTerrain m n).inReset = s.inReset := rfl
@[simp] theorem setTerrain_ops (m : Memory TerrainCell) (n : BitVec 16) : (s.setTerrain m n).ops = s.ops := rfl
@[simp] theorem setTerrain_replies (m : Memory TerrainCell) (n : BitVec 16) : (s.setTerrain m n).replies = s.replies := rfl
@[simp] theorem setTerrain_draws (m : Memory TerrainCell) (n : BitVec 16) : (s.setTerrain m n).draws = s.draws := rfl

/-! ### `setAttributes` -/

@[simp] theorem setAttributes_status (m : Memory Byte) (n : BitVec 16) : (s.setAttributes m n).status = s.status := rfl
@[simp] theorem setAttributes_len (m : Memory Byte) (n : BitVec 16) : (s.setAttributes m n).len = s.len := rfl
@[simp] theorem setAttributes_n (m : Memory Byte) (n : BitVec 16) : (s.setAttributes m n).n = s.n := rfl
@[simp] theorem setAttributes_r (m : Memory Byte) (n : BitVec 16) : (s.setAttributes m n).r = s.r := rfl
@[simp] theorem setAttributes_timeMs (m : Memory Byte) (n : BitVec 16) : (s.setAttributes m n).timeMs = s.timeMs := rfl
@[simp] theorem setAttributes_ctrl (m : Memory Byte) (n : BitVec 16) : (s.setAttributes m n).ctrl = s.ctrl := rfl
@[simp] theorem setAttributes_repeatSpan (m : Memory Byte) (n : BitVec 16) : (s.setAttributes m n).repeatSpan = s.repeatSpan := rfl
@[simp] theorem setAttributes_x0 (m : Memory Byte) (n : BitVec 16) : (s.setAttributes m n).x0 = s.x0 := rfl
@[simp] theorem setAttributes_y0 (m : Memory Byte) (n : BitVec 16) : (s.setAttributes m n).y0 = s.y0 := rfl
@[simp] theorem setAttributes_nvis (m : Memory Byte) (n : BitVec 16) : (s.setAttributes m n).nvis = s.nvis := rfl
@[simp] theorem setAttributes_key (m : Memory Byte) (n : BitVec 16) : (s.setAttributes m n).key = s.key := rfl
@[simp] theorem setAttributes_pos (m : Memory Byte) (n : BitVec 16) : (s.setAttributes m n).pos = s.pos := rfl
@[simp] theorem setAttributes_sdata (m : Memory Byte) (n : BitVec 16) : (s.setAttributes m n).sdata = s.sdata := rfl
@[simp] theorem setAttributes_sTile (m : Memory Byte) (n : BitVec 16) : (s.setAttributes m n).sTile = s.sTile := rfl
@[simp] theorem setAttributes_sPx (m : Memory Byte) (n : BitVec 16) : (s.setAttributes m n).sPx = s.sPx := rfl
@[simp] theorem setAttributes_sPy (m : Memory Byte) (n : BitVec 16) : (s.setAttributes m n).sPy = s.sPy := rfl
@[simp] theorem setAttributes_sWx (m : Memory Byte) (n : BitVec 16) : (s.setAttributes m n).sWx = s.sWx := rfl
@[simp] theorem setAttributes_sWy (m : Memory Byte) (n : BitVec 16) : (s.setAttributes m n).sWy = s.sWy := rfl
@[simp] theorem setAttributes_sSym (m : Memory Byte) (n : BitVec 16) : (s.setAttributes m n).sSym = s.sSym := rfl
@[simp] theorem setAttributes_sRgb (m : Memory Byte) (n : BitVec 16) : (s.setAttributes m n).sRgb = s.sRgb := rfl
@[simp] theorem setAttributes_fbSide (m : Memory Byte) (n : BitVec 16) : (s.setAttributes m n).fbSide = s.fbSide := rfl
@[simp] theorem setAttributes_tgN (m : Memory Byte) (n : BitVec 16) : (s.setAttributes m n).tgN = s.tgN := rfl
@[simp] theorem setAttributes_agN (m : Memory Byte) (n : BitVec 16) : (s.setAttributes m n).agN = n := rfl
@[simp] theorem setAttributes_wmask (m : Memory Byte) (n : BitVec 16) : (s.setAttributes m n).wmask = s.wmask := rfl
@[simp] theorem setAttributes_buf (m : Memory Byte) (n : BitVec 16) : (s.setAttributes m n).buf = s.buf := rfl
@[simp] theorem setAttributes_tg (m : Memory Byte) (n : BitVec 16) : (s.setAttributes m n).tg = s.tg := rfl
@[simp] theorem setAttributes_ag (m : Memory Byte) (n : BitVec 16) : (s.setAttributes m n).ag = m := rfl
@[simp] theorem setAttributes_fb (m : Memory Byte) (n : BitVec 16) : (s.setAttributes m n).fb = s.fb := rfl
@[simp] theorem setAttributes_tex (m : Memory Byte) (n : BitVec 16) : (s.setAttributes m n).tex = s.tex := rfl
@[simp] theorem setAttributes_inReset (m : Memory Byte) (n : BitVec 16) : (s.setAttributes m n).inReset = s.inReset := rfl
@[simp] theorem setAttributes_ops (m : Memory Byte) (n : BitVec 16) : (s.setAttributes m n).ops = s.ops := rfl
@[simp] theorem setAttributes_replies (m : Memory Byte) (n : BitVec 16) : (s.setAttributes m n).replies = s.replies := rfl
@[simp] theorem setAttributes_draws (m : Memory Byte) (n : BitVec 16) : (s.setAttributes m n).draws = s.draws := rfl

/-! ### `setSample` -/

@[simp] theorem setSample_status (c : Colour) : (s.setSample c).status = s.status := rfl
@[simp] theorem setSample_len (c : Colour) : (s.setSample c).len = s.len := rfl
@[simp] theorem setSample_n (c : Colour) : (s.setSample c).n = s.n := rfl
@[simp] theorem setSample_r (c : Colour) : (s.setSample c).r = s.r := rfl
@[simp] theorem setSample_timeMs (c : Colour) : (s.setSample c).timeMs = s.timeMs := rfl
@[simp] theorem setSample_ctrl (c : Colour) : (s.setSample c).ctrl = s.ctrl := rfl
@[simp] theorem setSample_repeatSpan (c : Colour) : (s.setSample c).repeatSpan = s.repeatSpan := rfl
@[simp] theorem setSample_x0 (c : Colour) : (s.setSample c).x0 = s.x0 := rfl
@[simp] theorem setSample_y0 (c : Colour) : (s.setSample c).y0 = s.y0 := rfl
@[simp] theorem setSample_nvis (c : Colour) : (s.setSample c).nvis = s.nvis := rfl
@[simp] theorem setSample_key (c : Colour) : (s.setSample c).key = s.key := rfl
@[simp] theorem setSample_pos (c : Colour) : (s.setSample c).pos = s.pos := rfl
@[simp] theorem setSample_sdata (c : Colour) : (s.setSample c).sdata = s.sdata := rfl
@[simp] theorem setSample_sTile (c : Colour) : (s.setSample c).sTile = s.sTile := rfl
@[simp] theorem setSample_sPx (c : Colour) : (s.setSample c).sPx = s.sPx := rfl
@[simp] theorem setSample_sPy (c : Colour) : (s.setSample c).sPy = s.sPy := rfl
@[simp] theorem setSample_sWx (c : Colour) : (s.setSample c).sWx = s.sWx := rfl
@[simp] theorem setSample_sWy (c : Colour) : (s.setSample c).sWy = s.sWy := rfl
@[simp] theorem setSample_sSym (c : Colour) : (s.setSample c).sSym = s.sSym := rfl
@[simp] theorem setSample_sRgb (c : Colour) : (s.setSample c).sRgb = c.r ++ c.g ++ c.b := rfl
@[simp] theorem setSample_fbSide (c : Colour) : (s.setSample c).fbSide = s.fbSide := rfl
@[simp] theorem setSample_tgN (c : Colour) : (s.setSample c).tgN = s.tgN := rfl
@[simp] theorem setSample_agN (c : Colour) : (s.setSample c).agN = s.agN := rfl
@[simp] theorem setSample_wmask (c : Colour) : (s.setSample c).wmask = s.wmask := rfl
@[simp] theorem setSample_buf (c : Colour) : (s.setSample c).buf = s.buf := rfl
@[simp] theorem setSample_tg (c : Colour) : (s.setSample c).tg = s.tg := rfl
@[simp] theorem setSample_ag (c : Colour) : (s.setSample c).ag = s.ag := rfl
@[simp] theorem setSample_fb (c : Colour) : (s.setSample c).fb = s.fb := rfl
@[simp] theorem setSample_tex (c : Colour) : (s.setSample c).tex = s.tex := rfl
@[simp] theorem setSample_inReset (c : Colour) : (s.setSample c).inReset = s.inReset := rfl
@[simp] theorem setSample_ops (c : Colour) : (s.setSample c).ops = s.ops := rfl
@[simp] theorem setSample_replies (c : Colour) : (s.setSample c).replies = s.replies := rfl
@[simp] theorem setSample_draws (c : Colour) : (s.setSample c).draws = s.draws := rfl

/-! ### `setFrame` -/

@[simp] theorem setFrame_status (m : Memory Colour) (side : BitVec 32) : (s.setFrame m side).status = s.status := rfl
@[simp] theorem setFrame_len (m : Memory Colour) (side : BitVec 32) : (s.setFrame m side).len = s.len := rfl
@[simp] theorem setFrame_n (m : Memory Colour) (side : BitVec 32) : (s.setFrame m side).n = s.n := rfl
@[simp] theorem setFrame_r (m : Memory Colour) (side : BitVec 32) : (s.setFrame m side).r = s.r := rfl
@[simp] theorem setFrame_timeMs (m : Memory Colour) (side : BitVec 32) : (s.setFrame m side).timeMs = s.timeMs := rfl
@[simp] theorem setFrame_ctrl (m : Memory Colour) (side : BitVec 32) : (s.setFrame m side).ctrl = s.ctrl := rfl
@[simp] theorem setFrame_repeatSpan (m : Memory Colour) (side : BitVec 32) : (s.setFrame m side).repeatSpan = s.repeatSpan := rfl
@[simp] theorem setFrame_x0 (m : Memory Colour) (side : BitVec 32) : (s.setFrame m side).x0 = s.x0 := rfl
@[simp] theorem setFrame_y0 (m : Memory Colour) (side : BitVec 32) : (s.setFrame m side).y0 = s.y0 := rfl
@[simp] theorem setFrame_nvis (m : Memory Colour) (side : BitVec 32) : (s.setFrame m side).nvis = s.nvis := rfl
@[simp] theorem setFrame_key (m : Memory Colour) (side : BitVec 32) : (s.setFrame m side).key = s.key := rfl
@[simp] theorem setFrame_pos (m : Memory Colour) (side : BitVec 32) : (s.setFrame m side).pos = s.pos := rfl
@[simp] theorem setFrame_sdata (m : Memory Colour) (side : BitVec 32) : (s.setFrame m side).sdata = s.sdata := rfl
@[simp] theorem setFrame_sTile (m : Memory Colour) (side : BitVec 32) : (s.setFrame m side).sTile = s.sTile := rfl
@[simp] theorem setFrame_sPx (m : Memory Colour) (side : BitVec 32) : (s.setFrame m side).sPx = s.sPx := rfl
@[simp] theorem setFrame_sPy (m : Memory Colour) (side : BitVec 32) : (s.setFrame m side).sPy = s.sPy := rfl
@[simp] theorem setFrame_sWx (m : Memory Colour) (side : BitVec 32) : (s.setFrame m side).sWx = s.sWx := rfl
@[simp] theorem setFrame_sWy (m : Memory Colour) (side : BitVec 32) : (s.setFrame m side).sWy = s.sWy := rfl
@[simp] theorem setFrame_sSym (m : Memory Colour) (side : BitVec 32) : (s.setFrame m side).sSym = s.sSym := rfl
@[simp] theorem setFrame_sRgb (m : Memory Colour) (side : BitVec 32) : (s.setFrame m side).sRgb = s.sRgb := rfl
@[simp] theorem setFrame_fbSide (m : Memory Colour) (side : BitVec 32) : (s.setFrame m side).fbSide = side := rfl
@[simp] theorem setFrame_tgN (m : Memory Colour) (side : BitVec 32) : (s.setFrame m side).tgN = s.tgN := rfl
@[simp] theorem setFrame_agN (m : Memory Colour) (side : BitVec 32) : (s.setFrame m side).agN = s.agN := rfl
@[simp] theorem setFrame_wmask (m : Memory Colour) (side : BitVec 32) : (s.setFrame m side).wmask = s.wmask := rfl
@[simp] theorem setFrame_buf (m : Memory Colour) (side : BitVec 32) : (s.setFrame m side).buf = s.buf := rfl
@[simp] theorem setFrame_tg (m : Memory Colour) (side : BitVec 32) : (s.setFrame m side).tg = s.tg := rfl
@[simp] theorem setFrame_ag (m : Memory Colour) (side : BitVec 32) : (s.setFrame m side).ag = s.ag := rfl
@[simp] theorem setFrame_fb (m : Memory Colour) (side : BitVec 32) : (s.setFrame m side).fb = m := rfl
@[simp] theorem setFrame_tex (m : Memory Colour) (side : BitVec 32) : (s.setFrame m side).tex = s.tex := rfl
@[simp] theorem setFrame_inReset (m : Memory Colour) (side : BitVec 32) : (s.setFrame m side).inReset = s.inReset := rfl
@[simp] theorem setFrame_ops (m : Memory Colour) (side : BitVec 32) : (s.setFrame m side).ops = s.ops := rfl
@[simp] theorem setFrame_replies (m : Memory Colour) (side : BitVec 32) : (s.setFrame m side).replies = s.replies := rfl
@[simp] theorem setFrame_draws (m : Memory Colour) (side : BitVec 32) : (s.setFrame m side).draws = s.draws := rfl

/-! ### `setTex` -/

@[simp] theorem setTex_status (m : Memory TileAsset) : (s.setTex m).status = s.status := rfl
@[simp] theorem setTex_len (m : Memory TileAsset) : (s.setTex m).len = s.len := rfl
@[simp] theorem setTex_n (m : Memory TileAsset) : (s.setTex m).n = s.n := rfl
@[simp] theorem setTex_r (m : Memory TileAsset) : (s.setTex m).r = s.r := rfl
@[simp] theorem setTex_timeMs (m : Memory TileAsset) : (s.setTex m).timeMs = s.timeMs := rfl
@[simp] theorem setTex_ctrl (m : Memory TileAsset) : (s.setTex m).ctrl = s.ctrl := rfl
@[simp] theorem setTex_repeatSpan (m : Memory TileAsset) : (s.setTex m).repeatSpan = s.repeatSpan := rfl
@[simp] theorem setTex_x0 (m : Memory TileAsset) : (s.setTex m).x0 = s.x0 := rfl
@[simp] theorem setTex_y0 (m : Memory TileAsset) : (s.setTex m).y0 = s.y0 := rfl
@[simp] theorem setTex_nvis (m : Memory TileAsset) : (s.setTex m).nvis = s.nvis := rfl
@[simp] theorem setTex_key (m : Memory TileAsset) : (s.setTex m).key = s.key := rfl
@[simp] theorem setTex_pos (m : Memory TileAsset) : (s.setTex m).pos = s.pos := rfl
@[simp] theorem setTex_sdata (m : Memory TileAsset) : (s.setTex m).sdata = s.sdata := rfl
@[simp] theorem setTex_sTile (m : Memory TileAsset) : (s.setTex m).sTile = s.sTile := rfl
@[simp] theorem setTex_sPx (m : Memory TileAsset) : (s.setTex m).sPx = s.sPx := rfl
@[simp] theorem setTex_sPy (m : Memory TileAsset) : (s.setTex m).sPy = s.sPy := rfl
@[simp] theorem setTex_sWx (m : Memory TileAsset) : (s.setTex m).sWx = s.sWx := rfl
@[simp] theorem setTex_sWy (m : Memory TileAsset) : (s.setTex m).sWy = s.sWy := rfl
@[simp] theorem setTex_sSym (m : Memory TileAsset) : (s.setTex m).sSym = s.sSym := rfl
@[simp] theorem setTex_sRgb (m : Memory TileAsset) : (s.setTex m).sRgb = s.sRgb := rfl
@[simp] theorem setTex_fbSide (m : Memory TileAsset) : (s.setTex m).fbSide = s.fbSide := rfl
@[simp] theorem setTex_tgN (m : Memory TileAsset) : (s.setTex m).tgN = s.tgN := rfl
@[simp] theorem setTex_agN (m : Memory TileAsset) : (s.setTex m).agN = s.agN := rfl
@[simp] theorem setTex_wmask (m : Memory TileAsset) : (s.setTex m).wmask = s.wmask := rfl
@[simp] theorem setTex_buf (m : Memory TileAsset) : (s.setTex m).buf = s.buf := rfl
@[simp] theorem setTex_tg (m : Memory TileAsset) : (s.setTex m).tg = s.tg := rfl
@[simp] theorem setTex_ag (m : Memory TileAsset) : (s.setTex m).ag = s.ag := rfl
@[simp] theorem setTex_fb (m : Memory TileAsset) : (s.setTex m).fb = s.fb := rfl
@[simp] theorem setTex_tex (m : Memory TileAsset) : (s.setTex m).tex = m := rfl
@[simp] theorem setTex_inReset (m : Memory TileAsset) : (s.setTex m).inReset = s.inReset := rfl
@[simp] theorem setTex_ops (m : Memory TileAsset) : (s.setTex m).ops = s.ops := rfl
@[simp] theorem setTex_replies (m : Memory TileAsset) : (s.setTex m).replies = s.replies := rfl
@[simp] theorem setTex_draws (m : Memory TileAsset) : (s.setTex m).draws = s.draws := rfl

/-! ### `setInReset` -/

@[simp] theorem setInReset_status (b : Bool) : (s.setInReset b).status = s.status := rfl
@[simp] theorem setInReset_len (b : Bool) : (s.setInReset b).len = s.len := rfl
@[simp] theorem setInReset_n (b : Bool) : (s.setInReset b).n = s.n := rfl
@[simp] theorem setInReset_r (b : Bool) : (s.setInReset b).r = s.r := rfl
@[simp] theorem setInReset_timeMs (b : Bool) : (s.setInReset b).timeMs = s.timeMs := rfl
@[simp] theorem setInReset_ctrl (b : Bool) : (s.setInReset b).ctrl = s.ctrl := rfl
@[simp] theorem setInReset_repeatSpan (b : Bool) : (s.setInReset b).repeatSpan = s.repeatSpan := rfl
@[simp] theorem setInReset_x0 (b : Bool) : (s.setInReset b).x0 = s.x0 := rfl
@[simp] theorem setInReset_y0 (b : Bool) : (s.setInReset b).y0 = s.y0 := rfl
@[simp] theorem setInReset_nvis (b : Bool) : (s.setInReset b).nvis = s.nvis := rfl
@[simp] theorem setInReset_key (b : Bool) : (s.setInReset b).key = s.key := rfl
@[simp] theorem setInReset_pos (b : Bool) : (s.setInReset b).pos = s.pos := rfl
@[simp] theorem setInReset_sdata (b : Bool) : (s.setInReset b).sdata = s.sdata := rfl
@[simp] theorem setInReset_sTile (b : Bool) : (s.setInReset b).sTile = s.sTile := rfl
@[simp] theorem setInReset_sPx (b : Bool) : (s.setInReset b).sPx = s.sPx := rfl
@[simp] theorem setInReset_sPy (b : Bool) : (s.setInReset b).sPy = s.sPy := rfl
@[simp] theorem setInReset_sWx (b : Bool) : (s.setInReset b).sWx = s.sWx := rfl
@[simp] theorem setInReset_sWy (b : Bool) : (s.setInReset b).sWy = s.sWy := rfl
@[simp] theorem setInReset_sSym (b : Bool) : (s.setInReset b).sSym = s.sSym := rfl
@[simp] theorem setInReset_sRgb (b : Bool) : (s.setInReset b).sRgb = s.sRgb := rfl
@[simp] theorem setInReset_fbSide (b : Bool) : (s.setInReset b).fbSide = s.fbSide := rfl
@[simp] theorem setInReset_tgN (b : Bool) : (s.setInReset b).tgN = s.tgN := rfl
@[simp] theorem setInReset_agN (b : Bool) : (s.setInReset b).agN = s.agN := rfl
@[simp] theorem setInReset_wmask (b : Bool) : (s.setInReset b).wmask = s.wmask := rfl
@[simp] theorem setInReset_buf (b : Bool) : (s.setInReset b).buf = s.buf := rfl
@[simp] theorem setInReset_tg (b : Bool) : (s.setInReset b).tg = s.tg := rfl
@[simp] theorem setInReset_ag (b : Bool) : (s.setInReset b).ag = s.ag := rfl
@[simp] theorem setInReset_fb (b : Bool) : (s.setInReset b).fb = s.fb := rfl
@[simp] theorem setInReset_tex (b : Bool) : (s.setInReset b).tex = s.tex := rfl
@[simp] theorem setInReset_inReset (b : Bool) : (s.setInReset b).inReset = b := rfl
@[simp] theorem setInReset_ops (b : Bool) : (s.setInReset b).ops = s.ops := rfl
@[simp] theorem setInReset_replies (b : Bool) : (s.setInReset b).replies = s.replies := rfl
@[simp] theorem setInReset_draws (b : Bool) : (s.setInReset b).draws = s.draws := rfl

/-! ### `answer` -/

@[simp] theorem answer_status (v : Reply) : (s.answer v).status = s.status := rfl
@[simp] theorem answer_len (v : Reply) : (s.answer v).len = s.len := rfl
@[simp] theorem answer_n (v : Reply) : (s.answer v).n = s.n := rfl
@[simp] theorem answer_r (v : Reply) : (s.answer v).r = s.r := rfl
@[simp] theorem answer_timeMs (v : Reply) : (s.answer v).timeMs = s.timeMs := rfl
@[simp] theorem answer_ctrl (v : Reply) : (s.answer v).ctrl = s.ctrl := rfl
@[simp] theorem answer_repeatSpan (v : Reply) : (s.answer v).repeatSpan = s.repeatSpan := rfl
@[simp] theorem answer_x0 (v : Reply) : (s.answer v).x0 = s.x0 := rfl
@[simp] theorem answer_y0 (v : Reply) : (s.answer v).y0 = s.y0 := rfl
@[simp] theorem answer_nvis (v : Reply) : (s.answer v).nvis = s.nvis := rfl
@[simp] theorem answer_key (v : Reply) : (s.answer v).key = s.key := rfl
@[simp] theorem answer_pos (v : Reply) : (s.answer v).pos = s.pos := rfl
@[simp] theorem answer_sdata (v : Reply) : (s.answer v).sdata = s.sdata := rfl
@[simp] theorem answer_sTile (v : Reply) : (s.answer v).sTile = s.sTile := rfl
@[simp] theorem answer_sPx (v : Reply) : (s.answer v).sPx = s.sPx := rfl
@[simp] theorem answer_sPy (v : Reply) : (s.answer v).sPy = s.sPy := rfl
@[simp] theorem answer_sWx (v : Reply) : (s.answer v).sWx = s.sWx := rfl
@[simp] theorem answer_sWy (v : Reply) : (s.answer v).sWy = s.sWy := rfl
@[simp] theorem answer_sSym (v : Reply) : (s.answer v).sSym = s.sSym := rfl
@[simp] theorem answer_sRgb (v : Reply) : (s.answer v).sRgb = s.sRgb := rfl
@[simp] theorem answer_fbSide (v : Reply) : (s.answer v).fbSide = s.fbSide := rfl
@[simp] theorem answer_tgN (v : Reply) : (s.answer v).tgN = s.tgN := rfl
@[simp] theorem answer_agN (v : Reply) : (s.answer v).agN = s.agN := rfl
@[simp] theorem answer_wmask (v : Reply) : (s.answer v).wmask = s.wmask := rfl
@[simp] theorem answer_buf (v : Reply) : (s.answer v).buf = s.buf := rfl
@[simp] theorem answer_tg (v : Reply) : (s.answer v).tg = s.tg := rfl
@[simp] theorem answer_ag (v : Reply) : (s.answer v).ag = s.ag := rfl
@[simp] theorem answer_fb (v : Reply) : (s.answer v).fb = s.fb := rfl
@[simp] theorem answer_tex (v : Reply) : (s.answer v).tex = s.tex := rfl
@[simp] theorem answer_inReset (v : Reply) : (s.answer v).inReset = s.inReset := rfl
@[simp] theorem answer_ops (v : Reply) : (s.answer v).ops = s.ops := rfl
@[simp] theorem answer_replies (v : Reply) : (s.answer v).replies = s.replies ++ [v] := rfl
@[simp] theorem answer_draws (v : Reply) : (s.answer v).draws = s.draws := rfl

/-! ### `nextOp` -/

@[simp] theorem nextOp_status (rest : List HostOp) : (s.nextOp rest).status = s.status := rfl
@[simp] theorem nextOp_len (rest : List HostOp) : (s.nextOp rest).len = s.len := rfl
@[simp] theorem nextOp_n (rest : List HostOp) : (s.nextOp rest).n = s.n := rfl
@[simp] theorem nextOp_r (rest : List HostOp) : (s.nextOp rest).r = s.r := rfl
@[simp] theorem nextOp_timeMs (rest : List HostOp) : (s.nextOp rest).timeMs = s.timeMs := rfl
@[simp] theorem nextOp_ctrl (rest : List HostOp) : (s.nextOp rest).ctrl = s.ctrl := rfl
@[simp] theorem nextOp_repeatSpan (rest : List HostOp) : (s.nextOp rest).repeatSpan = s.repeatSpan := rfl
@[simp] theorem nextOp_x0 (rest : List HostOp) : (s.nextOp rest).x0 = s.x0 := rfl
@[simp] theorem nextOp_y0 (rest : List HostOp) : (s.nextOp rest).y0 = s.y0 := rfl
@[simp] theorem nextOp_nvis (rest : List HostOp) : (s.nextOp rest).nvis = s.nvis := rfl
@[simp] theorem nextOp_key (rest : List HostOp) : (s.nextOp rest).key = s.key := rfl
@[simp] theorem nextOp_pos (rest : List HostOp) : (s.nextOp rest).pos = s.pos := rfl
@[simp] theorem nextOp_sdata (rest : List HostOp) : (s.nextOp rest).sdata = s.sdata := rfl
@[simp] theorem nextOp_sTile (rest : List HostOp) : (s.nextOp rest).sTile = s.sTile := rfl
@[simp] theorem nextOp_sPx (rest : List HostOp) : (s.nextOp rest).sPx = s.sPx := rfl
@[simp] theorem nextOp_sPy (rest : List HostOp) : (s.nextOp rest).sPy = s.sPy := rfl
@[simp] theorem nextOp_sWx (rest : List HostOp) : (s.nextOp rest).sWx = s.sWx := rfl
@[simp] theorem nextOp_sWy (rest : List HostOp) : (s.nextOp rest).sWy = s.sWy := rfl
@[simp] theorem nextOp_sSym (rest : List HostOp) : (s.nextOp rest).sSym = s.sSym := rfl
@[simp] theorem nextOp_sRgb (rest : List HostOp) : (s.nextOp rest).sRgb = s.sRgb := rfl
@[simp] theorem nextOp_fbSide (rest : List HostOp) : (s.nextOp rest).fbSide = s.fbSide := rfl
@[simp] theorem nextOp_tgN (rest : List HostOp) : (s.nextOp rest).tgN = s.tgN := rfl
@[simp] theorem nextOp_agN (rest : List HostOp) : (s.nextOp rest).agN = s.agN := rfl
@[simp] theorem nextOp_wmask (rest : List HostOp) : (s.nextOp rest).wmask = s.wmask := rfl
@[simp] theorem nextOp_buf (rest : List HostOp) : (s.nextOp rest).buf = s.buf := rfl
@[simp] theorem nextOp_tg (rest : List HostOp) : (s.nextOp rest).tg = s.tg := rfl
@[simp] theorem nextOp_ag (rest : List HostOp) : (s.nextOp rest).ag = s.ag := rfl
@[simp] theorem nextOp_fb (rest : List HostOp) : (s.nextOp rest).fb = s.fb := rfl
@[simp] theorem nextOp_tex (rest : List HostOp) : (s.nextOp rest).tex = s.tex := rfl
@[simp] theorem nextOp_inReset (rest : List HostOp) : (s.nextOp rest).inReset = s.inReset := rfl
@[simp] theorem nextOp_ops (rest : List HostOp) : (s.nextOp rest).ops = rest := rfl
@[simp] theorem nextOp_replies (rest : List HostOp) : (s.nextOp rest).replies = s.replies := rfl
@[simp] theorem nextOp_draws (rest : List HostOp) : (s.nextOp rest).draws = s.draws + 1 := rfl

end Sys2Proof.Machine
end

