-- ==== Sys2Proof/Laws/Ops.lean ====
section
/-! SUPPORT. The shared operations: what reads see after each update, and once each what `complete` and `raise` do. -/
namespace Sys2Proof.Machine

variable (s : State)

/-! ### Reads after a STATUS write: only STATUS changes -/

theorem readReg_setStatus (w : BitVec 32) {name : Reg} (h : name ≠ .status) :
    readReg (s.setStatus w) name = readReg s name := by
  cases name <;> first | rfl | exact absurd rfl h

@[simp] theorem bufRead_setStatus (w : BitVec 32) (a : Nat) : bufRead (s.setStatus w) a = bufRead s a := rfl
@[simp] theorem tgRead_setStatus (w : BitVec 32) (i : Nat) : tgRead (s.setStatus w) i = tgRead s i := rfl
@[simp] theorem agRead_setStatus (w : BitVec 32) (i : Nat) : agRead (s.setStatus w) i = agRead s i := rfl
@[simp] theorem fbRead_setStatus (w : BitVec 32) (row col : Nat) :
    fbRead (s.setStatus w) row col = fbRead s row col := rfl

/-! ### The two ends of a command -/

@[simp] theorem complete_status : (complete s).status = Status.withErr .none s.status := rfl
@[simp] theorem raise_status (e : ErrCode) :
    (raise e s).status = Status.setSticky (Status.withErr e s.status) := rfl
@[simp] theorem setMiss_status (b : Bool) : (setMiss b s).status = Status.withMiss b s.status := rfl

/-- A command that completes leaves ERR = 0, every other field of STATUS, and everything outside STATUS. -/
theorem complete_spec : CompletedStatus s (complete s) ∧ SameButStatus s (complete s) :=
  ⟨by simp [CompletedStatus, StatusAfter, ErrCode.code], rfl⟩

/-- A command that raises leaves ERR at the code, ESTICKY = 1, and everything outside STATUS (R241). -/
theorem raise_spec (e : ErrCode) :
    RaisedStatus s (raise e s) (Status.miss s.status) e.code ∧ SameButStatus s (raise e s) :=
  ⟨by simp [RaisedStatus, StatusAfter], rfl⟩

/-- The same for SAMPLE and RENDER, which clear MISS first. -/
theorem raise_setMiss_spec (e : ErrCode) :
    RaisedStatus s (raise e (setMiss false s)) false e.code ∧ SameButStatus s (raise e (setMiss false s)) :=
  ⟨by simp [RaisedStatus, StatusAfter], rfl⟩

/-! ### Reading a memory that was written -/

/-- After a block write of BUF: the block, and every other byte as before. -/
theorem bufRead_setBuf_writeBlock (base : Nat) (vs : List Byte) (a : Nat) :
    bufRead (s.setBuf (Memory.writeBlock s.buf base vs)) a =
      if h : base ≤ a ∧ a < base + vs.length then vs[a - base]'(by omega) else bufRead s a := by
  simp only [bufRead, setBuf_buf, setBuf_draws, Memory.lookup_writeBlock]
  by_cases h : base ≤ a ∧ a < base + vs.length
  · have : a - base < vs.length := by omega
    simp [h, List.getElem?_eq_getElem this]
  · rw [if_neg h, dif_neg h]

@[simp] theorem length_bufBytes (n : Nat) : (bufBytes s n).length = n := by simp [bufBytes]

theorem getElem_bufBytes (n i : Nat) (h : i < (bufBytes s n).length) : (bufBytes s n)[i] = bufRead s i := by
  simp [bufBytes]

/-! ### Port ranges (R60) -/

theorem bufInRange_iff {a : Nat} : bufInRange a = true ↔ a < 262144 := decide_eq_true_iff
theorem cellInRange_iff {i : Nat} : cellInRange i = true ↔ i < 65536 := decide_eq_true_iff
theorem pixelInRange_iff {row col : Nat} : pixelInRange row col = true ↔ row < 16384 ∧ col < 16384 :=
  Bool.and_eq_true_iff.trans (and_congr decide_eq_true_iff decide_eq_true_iff)

end Sys2Proof.Machine
end

