-- ==== Sys2Proof/Laws/Cipher.lean ====
section
/-! SUPPORT. The stream functions of the cipher family, byte by byte. -/
namespace Sys2Proof.Machine

/-! ### `decStream` -/

@[simp] theorem length_decStream (k : Byte) (p : BitVec 32) (bs : List Byte) :
    (decStream k p bs).1.length = bs.length := by
  induction bs generalizing k p with
  | nil => rfl
  | cons b bs ih => simp [decStream, ih]

/-- The key before byte `i` of a stream: the one it starts with, then from the raw byte before (R100). -/
def streamKeyAt (k : Byte) (bs : List Byte) : Nat → Byte
  | 0 => k
  | i + 1 => decKey (bs.getD i 0)

theorem getElem_decStream (k : Byte) (p : BitVec 32) (bs : List Byte) (i : Nat)
    (h : i < (decStream k p bs).1.length) :
    (decStream k p bs).1[i] = decOut (streamKeyAt k bs i) (p + BitVec.ofNat 32 i) (bs.getD i 0) := by
  induction bs generalizing k p i with
  | nil => simp [decStream] at h
  | cons b bs ih =>
    cases i with
    | zero => simp [decStream, streamKeyAt]
    | succ i =>
      have hp : p + 1 + BitVec.ofNat 32 i = p + BitVec.ofNat 32 (i + 1) := by
        apply BitVec.eq_of_toNat_eq; simp; omega
      have h' : i < (decStream (decKey b) (p + 1) bs).1.length := by simpa [decStream] using h
      have hi := ih (decKey b) (p + 1) i h'
      rw [hp] at hi
      have hk : streamKeyAt (decKey b) bs i = streamKeyAt k (b :: bs) (i + 1) := by cases i <;> simp [streamKeyAt]
      rw [hk] at hi
      exact hi

theorem key_decStream (k : Byte) (p : BitVec 32) (bs : List Byte) :
    (decStream k p bs).2.1 = streamKeyAt k bs bs.length := by
  induction bs generalizing k p with
  | nil => rfl
  | cons b bs ih =>
    have : (decStream k p (b :: bs)).2.1 = (decStream (decKey b) (p + 1) bs).2.1 := rfl
    rw [this, ih]
    cases bs with
    | nil => simp [streamKeyAt]
    | cons c cs => simp [streamKeyAt]

theorem pos_decStream (k : Byte) (p : BitVec 32) (bs : List Byte) :
    (decStream k p bs).2.2 = p + BitVec.ofNat 32 bs.length := by
  induction bs generalizing k p with
  | nil => simp [decStream]
  | cons b bs ih =>
    have : (decStream k p (b :: bs)).2.2 = (decStream (decKey b) (p + 1) bs).2.2 := rfl
    rw [this, ih]
    apply BitVec.eq_of_toNat_eq; simp; omega

/-- `KT[pos[3:0]]` reads the table at the true byte count: 2^32 is a multiple of 16 (R141). -/
theorem keyTableAt_ofNat (i : Nat) : keyTableAt (BitVec.ofNat 32 i).toNat = keyTableAt i := by
  simp only [keyTableAt, BitVec.toNat_ofNat]
  congr 1
  omega

/-! ### `xor3` -/

@[simp] theorem length_xor3 (i : Nat) (bs : List Byte) : (xor3 i bs).length = bs.length := by
  induction bs generalizing i with
  | nil => rfl
  | cons b bs ih => simp [xor3, ih]

theorem getElem_xor3 (k : Nat) (bs : List Byte) (i : Nat) (h : i < (xor3 k bs).length) :
    (xor3 k bs)[i] = bs[i]'(by simpa using h) ^^^ xorTableAt (k + i) := by
  induction bs generalizing k i with
  | nil => simp [xor3] at h
  | cons b bs ih =>
    cases i with
    | zero => simp [xor3]
    | succ i =>
      have h' : i < (xor3 (k + 1) bs).length := by simpa [xor3] using h
      simpa [xor3, Nat.add_assoc, Nat.add_comm 1 i] using ih (k + 1) i h'

/-! ### `encStream` -/

@[simp] theorem length_encStream (k : Byte) (i : Nat) (ps : List Byte) : (encStream k i ps).length = ps.length := by
  induction ps generalizing k i with
  | nil => rfl
  | cons p ps ih => simp [encStream, ih]

end Sys2Proof.Machine
end

