-- ==== Sys2Proof/Laws/Exec.lean ====
section
/-! SUPPORT. Each command as one equation per way it ends, under the conditions of Safety.lean, so that no later proof
unfolds a meaning's checks. -/
namespace Sys2Proof.Machine

variable {s : State}

/-! ### The checks -/

theorem badDimension_eq_true : badDimension s = true ↔ ¬ (1 ≤ s.n.toNat ∧ s.n.toNat ≤ 256) := by
  simp only [badDimension, Bool.or_eq_true, decide_eq_true_eq]; simp only [Config.nMax]; omega

theorem badResolution_eq_true : badResolution s = true ↔ ¬ (1 ≤ s.r.toNat ∧ s.r.toNat ≤ 64) := by
  simp only [badResolution, Bool.or_eq_true, decide_eq_true_eq]; simp only [Config.rMax]; omega

theorem decoder_check : (badDimension s || decide (Config.bufCap < s.len.toNat)) = true ↔ ¬ decoderConfigured s := by
  simp only [Bool.or_eq_true, badDimension_eq_true, decide_eq_true_eq, decoderConfigured]
  simp only [Config.bufCap]; omega

theorem sample_check : (badResolution s || decide (s.r.toNat ≤ s.sPx.toNat) || decide (s.r.toNat ≤ s.sPy.toNat)) = true
    ↔ ¬ sampleConfigured s := by
  simp only [Bool.or_eq_true, badResolution_eq_true, decide_eq_true_eq, sampleConfigured]; omega

theorem render_check : (badDimension s || badResolution s || decide (Config.fbSideMax < frameSide s)) = true
    ↔ ¬ renderConfigured s := by
  simp only [Bool.or_eq_true, badDimension_eq_true, badResolution_eq_true, decide_eq_true_eq, renderConfigured]
  simp only [Config.fbSideMax, frameSide]; omega

/-! ### DECRYPT and DEOBF -/

theorem exec_decrypt_runs (h : bufferFits s) :
    exec .decrypt s =
      .next (complete ((s.setBuf (Memory.writeBlock s.buf 0
          (decStream Config.keyInit 0 (bufBytes s s.len.toNat)).1)).setCipher
        (decStream Config.keyInit 0 (bufBytes s s.len.toNat)).2.1
        (decStream Config.keyInit 0 (bufBytes s s.len.toNat)).2.2)) :=
  if_neg (by simpa [Config.bufCap, bufferFits] using h)

theorem exec_deobf_runs (h : bufferFits s) :
    exec .deobf s =
      .next (complete (s.setBuf (Memory.writeBlock s.buf 0 (xor3 0 (bufBytes s s.len.toNat))))) :=
  if_neg (by simpa [Config.bufCap, bufferFits] using h)

theorem exec_decrypt_badConfig (h : ¬ bufferFits s) : exec .decrypt s = .next (raise .badConfig s) :=
  if_pos (by simpa [Config.bufCap, bufferFits] using h)

theorem exec_deobf_badConfig (h : ¬ bufferFits s) : exec .deobf s = .next (raise .badConfig s) :=
  if_pos (by simpa [Config.bufCap, bufferFits] using h)

/-! ### DECMAP and DECATT -/

theorem exec_decmap_badConfig (h : ¬ decoderConfigured s) : exec .decmap s = .next (raise .badConfig s) :=
  if_pos (decoder_check.2 h)

theorem exec_decmap_tooSmall (h : decoderConfigured s) (hl : s.len.toNat < 3 * s.n.toNat * s.n.toNat) :
    exec .decmap s = .next (raise .tooSmall s) :=
  (if_neg (fun hc => decoder_check.1 hc h)).trans (if_pos hl)

theorem exec_decmap_runs (h : decoderConfigured s) (hl : 3 * s.n.toNat * s.n.toNat ≤ s.len.toNat) :
    exec .decmap s = .next (complete (storeTerrain s
      ((List.range (s.n.toNat * s.n.toNat)).map (mapCell s s.len.toNat s.n.toNat)))) :=
  (if_neg (fun hc => decoder_check.1 hc h)).trans (if_neg (by omega))

theorem exec_decatt_badConfig (h : ¬ decoderConfigured s) : exec .decatt s = .next (raise .badConfig s) :=
  if_pos (decoder_check.2 h)

theorem exec_decatt_wordLayout (h : decoderConfigured s) (hl : s.len.toNat = 4 + 2 * s.n.toNat * s.n.toNat) :
    exec .decatt s = .next (complete (storeAttributes s
      ((List.range (s.n.toNat * s.n.toNat)).map (wordLayoutAttr s Config.attLowOff)))) :=
  (if_neg (fun hc => decoder_check.1 hc h)).trans (if_pos hl)

theorem exec_decatt_byteLayout (h : decoderConfigured s) (hw : s.len.toNat ≠ 4 + 2 * s.n.toNat * s.n.toNat)
    (hl : s.n.toNat * s.n.toNat ≤ s.len.toNat) :
    exec .decatt s = .next (complete (storeAttributes s
      ((List.range (s.n.toNat * s.n.toNat)).map (byteLayoutAttr s s.len.toNat s.n.toNat)))) :=
  (if_neg (fun hc => decoder_check.1 hc h)).trans ((if_neg hw).trans (if_pos hl))

theorem exec_decatt_badAttLayout (h : decoderConfigured s) (hw : s.len.toNat ≠ 4 + 2 * s.n.toNat * s.n.toNat)
    (hl : s.len.toNat < s.n.toNat * s.n.toNat) : exec .decatt s = .next (raise .badAttLayout s) :=
  (if_neg (fun hc => decoder_check.1 hc h)).trans ((if_neg hw).trans (if_neg (by omega)))

/-! ### SAMPLE -/

theorem exec_sample_badConfig (h : ¬ sampleConfigured s) :
    exec .sample s = .next (raise .badConfig (setMiss false s)) :=
  if_pos (sample_check.2 h)

/-- What SAMPLE samples. -/
def sampleResult (s : State) : Colour × Bool :=
  sampleTile s s.sTile (sampleCoords s).1 (sampleCoords s).2 s.sWx.toNat s.sWy.toNat s.timeMs.toNat

theorem exec_sample_runs (h : sampleConfigured s) :
    exec .sample s =
      .next (complete (setMiss (sampleResult s).2 ((setMiss false s).setSample (sampleResult s).1))) :=
  if_neg (fun hc => sample_check.1 hc h)

/-! ### RENDER -/

theorem exec_render_badConfig (h : ¬ renderConfigured s) :
    exec .render s = .next (raise .badConfig (setMiss false s)) :=
  if_pos (render_check.2 h)

theorem exec_render_noGrid (h : renderConfigured s) (hg : ¬ gridsMatch s) :
    exec .render s = .next (raise .noGrid (setMiss false s)) := by
  refine (if_neg (fun hc => render_check.1 hc h)).trans ?_
  by_cases ht : s.tgN = s.n
  · refine (if_neg (fun hc => hc ht)).trans (if_pos ?_)
    simpa [gridsMatch, ht, symEnabled] using hg
  · exact if_pos ht

theorem exec_render_runs (h : renderConfigured s) (hg : gridsMatch s) :
    exec .render s = .next (complete (renderFrame Config.blendRound (setMiss false s))) := by
  refine (if_neg (fun hc => render_check.1 hc h)).trans ((if_neg (fun hc => hc hg.1)).trans (if_neg ?_))
  exact fun hc => hc.2 (hg.2 hc.1)

end Sys2Proof.Machine
end

