-- ==== Sys2Proof/Laws/Rational.lean ====
section
/-! SUPPORT. The exact arithmetic of the sampler and the compositor: floor, wrap, and the texel coordinate. -/
namespace Sys2Proof.Machine

/-- The model's floor is the library's, so the library's floor lemmas apply. -/
theorem ratFloor_eq (q : Rat) : q.floor = ⌊q⌋ := rfl

/-- Wrapping into [0, 1) takes the floor away (R186). -/
theorem ratMod_one (q : Rat) : ratMod q 1 = q - (⌊q⌋ : Rat) := by
  simp [ratMod, ratFloor_eq]

theorem ratMod_one_nonneg (q : Rat) : 0 ≤ ratMod q 1 := by
  rw [ratMod_one]; linarith [Int.floor_le q]

theorem ratMod_one_lt_one (q : Rat) : ratMod q 1 < 1 := by
  rw [ratMod_one]; linarith [Int.lt_floor_add_one q]

/-- The texel coordinate without the wrap: `floor((q mod 1)·W) = floor(q·W) mod W` for an integer W (R188). -/
theorem texelCoord_eq (eff : Rat) (dim : Nat) :
    texelCoord eff dim = (⌊eff * (dim : Rat)⌋ % (dim : Int)).toNat := by
  have h : ratMod eff 1 * (dim : Rat) = eff * (dim : Rat) - ((⌊eff⌋ * (dim : Int) : Int) : Rat) := by
    rw [ratMod_one]; push_cast; ring
  rw [texelCoord, ratFloor_eq, h, Int.floor_sub_intCast, Int.sub_mul_emod_self_right]

/-- The floor of a quotient of natural numbers is their integer quotient. -/
theorem floor_natCast_div (a b : Nat) : ⌊(a : Rat) / (b : Rat)⌋ = ((a / b : Nat) : Int) := by
  exact_mod_cast Rat.floor_natCast_div_natCast a b

end Sys2Proof.Machine
end

