-- ==== Sys2Proof/Laws/Compositor.lean ====
section
/-! SUPPORT. The frame that RENDER writes: what stands at each framebuffer address, and that it is in canonical form. -/
namespace Sys2Proof.Machine

/-- The rows of a frame, laid out by framebuffer address, as a memory. -/
def rowsFrom {α : Type} (side : Nat) (f : Nat → Nat → α) (rows : List Nat) : Memory α :=
  rows.flatMap fun row => (List.range side).map fun col => (fbAddr row col, f row col)

theorem fbAddr_inj {row col row' col' : Nat} (hc : col < Config.fbSideMax) (hc' : col' < Config.fbSideMax)
    (h : fbAddr row col = fbAddr row' col') : row = row' ∧ col = col' := by
  simp only [fbAddr, Config.fbSideMax] at *; omega

theorem lookup_row {α : Type} {side row : Nat} (hs : side ≤ Config.fbSideMax) (f : Nat → α) (row' col : Nat)
    (hc : col < Config.fbSideMax) :
    Memory.lookup ((List.range side).map fun c => (fbAddr row c, f c)) (fbAddr row' col) =
      if row = row' ∧ col < side then some (f col) else none := by
  induction side with
  | zero => simp
  | succ n ih =>
    rw [List.range_succ, List.map_append, Memory.lookup_append, ih (by omega)]
    simp only [List.map_cons, List.map_nil, Memory.lookup]
    by_cases h : fbAddr row n = fbAddr row' col
    · obtain ⟨rfl, rfl⟩ := fbAddr_inj (by omega) hc h
      simp
    · have : ¬ (row = row' ∧ n = col) := by rintro ⟨rfl, rfl⟩; exact h rfl
      rw [if_neg h, Option.or_none]
      by_cases h' : row = row' ∧ col < n
      · rw [if_pos h', if_pos ⟨h'.1, by omega⟩]
      · rw [if_neg h', if_neg (by rintro ⟨e, hlt⟩; exact h' ⟨e, by omega⟩)]

theorem lookup_rowsFrom {α : Type} {side : Nat} (hs : side ≤ Config.fbSideMax) (f : Nat → Nat → α) (rows : List Nat)
    (row col : Nat) (hc : col < Config.fbSideMax) :
    Memory.lookup (rowsFrom side f rows) (fbAddr row col) =
      if row ∈ rows ∧ col < side then some (f row col) else none := by
  induction rows with
  | nil => simp [rowsFrom]
  | cons r rows ih =>
    have : rowsFrom side f (r :: rows) =
        ((List.range side).map fun c => (fbAddr r c, f r c)) ++ rowsFrom side f rows := rfl
    rw [this, Memory.lookup_append, lookup_row hs (f r) row col hc, ih]
    by_cases h1 : r = row
    · subst h1; by_cases h2 : col < side <;> simp [h2]
    · simp [h1, Ne.symm h1]

/-- What stands at each address of a frame. -/
theorem lookup_frame {α : Type} {side : Nat} (hs : side ≤ Config.fbSideMax) (f : Nat → Nat → α) (row col : Nat)
    (hc : col < Config.fbSideMax) :
    Memory.lookup (rowsFrom side f (List.range side)) (fbAddr row col) =
      if row < side ∧ col < side then some (f row col) else none := by
  rw [lookup_rowsFrom hs f _ row col hc]; simp

/-- A frame is in canonical form. -/
theorem wf_rowsFrom {α : Type} {side : Nat} (hs : side ≤ Config.fbSideMax) (f : Nat → Nat → α) (rows : List Nat)
    (hr : rows.Pairwise (· < ·)) : Memory.wf (rowsFrom side f rows) := by
  refine List.pairwise_flatMap.2 ⟨fun row _ => ?_, hr.imp fun {row row'} hlt => ?_⟩
  · refine List.pairwise_map.2 (List.pairwise_lt_range.imp fun {a b} h => ?_)
    simp only [fbAddr]; omega
  · intro p hp q hq
    obtain ⟨c, hc, rfl⟩ := List.mem_map.1 hp
    obtain ⟨c', hc', rfl⟩ := List.mem_map.1 hq
    simp only [List.mem_range, fbAddr, Config.fbSideMax] at *
    omega

/-- The contents of FB after a RENDER, as rows. -/
theorem frameEntries_map (mode : Config.BlendRound) (s : State) {β : Type} (g : Colour × Bool → β) :
    (frameEntries mode s).map (fun p => (p.1, g p.2)) =
      rowsFrom (frameSide s) (fun row col => g (framePixel mode s row col)) (List.range (frameSide s)) := by
  simp [frameEntries, rowsFrom, List.map_flatMap, Function.comp_def]

/-- Some pixel of the frame missed exactly when some (row, col) of it did. -/
theorem any_frameEntries (mode : Config.BlendRound) (s : State) :
    (frameEntries mode s).any (fun p => p.2.2) = true ↔
      ∃ row col, row < frameSide s ∧ col < frameSide s ∧ (framePixel mode s row col).2 = true := by
  simp only [frameEntries, List.any_eq_true, List.mem_flatMap, List.mem_map, List.mem_range]
  constructor
  · rintro ⟨p, ⟨row, hr, col, hc, rfl⟩, hp⟩; exact ⟨row, col, hr, hc, hp⟩
  · rintro ⟨row, col, hr, hc, hp⟩; exact ⟨_, ⟨row, hr, col, hc, rfl⟩, hp⟩

/-- No pixel depends on STATUS. -/
theorem pixelAt_setMiss (mode : Config.BlendRound) (s : State) (b : Bool) (x y px py : Nat) :
    pixelAt mode (setMiss b s) x y px py = pixelAt mode s x y px py := rfl

end Sys2Proof.Machine
end

