-- ==== Sys2Proof/Laws/PerInstr.lean ====
section
/-! SUPPORT. What holds of every command as syntax, one lemma per command. -/
namespace Sys2Proof.Laws.WordShape

/-- The command is well formed, its word has all reserved bits 0, and OP lies in the opcode map (R90, R92, R94). -/
def Statement (i : Instr) : Prop :=
  i.wellFormed = true ∧ rsvField (encode i) = 0 ∧ (opField (encode i)).toNat ≤ 8

theorem nop : Statement .nop := by unfold Statement; decide
theorem dinit : Statement .dinit := by unfold Statement; decide
theorem dstep : Statement .dstep := by unfold Statement; decide
theorem decrypt : Statement .decrypt := by unfold Statement; decide
theorem deobf : Statement .deobf := by unfold Statement; decide
theorem decmap : Statement .decmap := by unfold Statement; decide
theorem decatt : Statement .decatt := by unfold Statement; decide
theorem sample : Statement .sample := by unfold Statement; decide
theorem render : Statement .render := by unfold Statement; decide

end Sys2Proof.Laws.WordShape
end

