-- ==== Sys2Proof/Laws/Step.lean ====
section
/-! SUPPORT. Everything a step can do, said once: the moves an operation of the outside world makes, and that a step is
one of them. -/
namespace Sys2Proof.Machine

/-! ### The pieces of a step -/

theorem step_cons {s : State} {op : HostOp} {rest : List HostOp} (h : s.ops = op :: rest) :
    step s = hostStep op (s.nextOp rest) := by simp only [step, h]

theorem portOp_running {s : State} (h : s.inReset = false) (act : Host.Outcome State Fault Refusal) :
    portOp s act = act := if_neg (by simp [h])

theorem portOp_held {s : State} (h : s.inReset = true) (act : Host.Outcome State Fault Refusal) :
    portOp s act = .next s := if_pos h

theorem hostWrite_cmd (w : Word) (s : State) : hostWrite 0x00 w s = issueCommand w s := rfl

/-- Outside reset, a write to CMD issues the word. -/
theorem step_cmd {s : State} {w : Word} {rest : List HostOp} (hr : s.inReset = false)
    (ho : s.ops = .wr 0x00 w :: rest) : step s = issueCommand w (s.nextOp rest) := by
  rw [step_cons ho]
  exact portOp_running (s := s.nextOp rest) hr (hostWrite 0x00 w (s.nextOp rest))

theorem issueCommand_ok {w : Word} {i : Instr} (h : decodeWord w = .ok i) (s : State) :
    issueCommand w s = exec i s := by simp only [issueCommand, h]

theorem issueCommand_error {w : Word} {e : DecodeReject} (h : decodeWord w = .error e) (s : State) :
    issueCommand w s = .next (raise .illegalCommand s) := by simp only [issueCommand, h]

/-! ### The inversion -/

/-- The ways an operation can take SXD and what stands around it from `s` to the state named last. -/
inductive HostMove (s : State) : HostOp → State → Prop
  /-- Reset is asserted: a port operation has no effect. -/
  | held (op : HostOp) (h : s.inReset = true) : HostMove s op s
  /-- A command ran. -/
  | command (w : Word) (i : Instr) (t : State) (hd : decodeWord w = .ok i) (he : exec i s = .next t) :
      HostMove s (.wr 0x00 w) t
  /-- An illegal word was written to CMD. -/
  | illegal (w : Word) (e : DecodeReject) (hd : decodeWord w = .error e) :
      HostMove s (.wr 0x00 w) (raise .illegalCommand s)
  /-- A register number above 0x1F was written. -/
  | noRegister (reg : Byte) (v : Word) (hn : regOfNumber reg = none) : HostMove s (.wr reg v) s
  /-- A register other than CMD was written. -/
  | store (reg : Byte) (v : Word) (name : Reg) (hn : regOfNumber reg = some name) (hc : name ≠ .cmd) :
      HostMove s (.wr reg v) (storeReg s name v)
  /-- A read was answered. -/
  | read (op : HostOp) (v : Reply) (hw : ∀ reg w, op ≠ .wr reg w) (hr : op ≠ .releaseReset) :
      HostMove s op (s.answer v)
  /-- A byte of BUF was written. -/
  | bufWrite (a : Nat) (v : Byte) (ha : a < Config.bufCap) : HostMove s (.bufW a v) (s.setBuf (Memory.write s.buf a v))
  /-- The environment loaded an asset. -/
  | load (tile : Byte) (a : TileAsset) :
      HostMove s (.texLoad tile a) (s.setTex (Memory.write s.tex tile.toNat a))
  /-- The environment unloaded an asset. -/
  | unload (tile : Byte) : HostMove s (.texUnload tile) (s.setTex (Memory.erase s.tex tile.toNat))
  /-- The reset input was asserted. -/
  | assert : HostMove s .assertReset (s.setInReset true)
  /-- The reset input was released. -/
  | release : HostMove s .releaseReset (releaseReset s)

theorem regOfNumber_cmd {reg : Byte} (h : regOfNumber reg = some .cmd) : reg = 0x00 := by
  have : reg.toNat = 0 := by
    unfold regOfNumber at h
    split at h <;> first | assumption | cases h
  exact BitVec.eq_of_toNat_eq this

theorem hostWrite_move {reg : Byte} {v : Word} {s t : State} (h : hostWrite reg v s = .next t) :
    HostMove s (.wr reg v) t := by
  unfold hostWrite at h
  split at h
  · next hn => cases h; exact .noRegister reg v hn
  · next hn =>
    obtain rfl := regOfNumber_cmd hn
    cases hd : decodeWord v with
    | ok i => exact .command v i t hd (by rwa [issueCommand_ok hd] at h)
    | error e => rw [issueCommand_error hd] at h; cases h; exact .illegal v e hd
  · next name hc hn => cases h; exact .store reg v name hn (fun h => hc h)

/-- An operation that answers a next state made one of the moves. -/
theorem hostStep_move {op : HostOp} {s t : State} (h : hostStep op s = .next t) : HostMove s op t := by
  by_cases hr : s.inReset = true
  · cases op with
    | texLoad tile a => cases h; exact .load tile a
    | texUnload tile => cases h; exact .unload tile
    | assertReset => cases h; exact .assert
    | releaseReset => cases h; exact .release
    | _ => simp only [hostStep, portOp_held hr] at h; cases h; exact .held _ hr
  · have hr : s.inReset = false := by simpa using hr
    cases op with
    | texLoad tile a => cases h; exact .load tile a
    | texUnload tile => cases h; exact .unload tile
    | assertReset => cases h; exact .assert
    | releaseReset => cases h; exact .release
    | wr reg v => simp only [hostStep, portOp_running hr] at h; exact hostWrite_move h
    | rd reg => simp only [hostStep, portOp_running hr] at h; cases h; exact .read _ _ (by simp) (by simp)
    | bufW a v =>
      simp only [hostStep, portOp_running hr] at h
      split at h
      · next ha => cases h; exact .bufWrite a v (by simpa [bufInRange] using ha)
      · cases h
    | bufR a =>
      simp only [hostStep, portOp_running hr] at h
      split at h
      · cases h; exact .read _ _ (by simp) (by simp)
      · cases h
    | tgR i =>
      simp only [hostStep, portOp_running hr] at h
      split at h
      · cases h; exact .read _ _ (by simp) (by simp)
      · cases h
    | agR i =>
      simp only [hostStep, portOp_running hr] at h
      split at h
      · cases h; exact .read _ _ (by simp) (by simp)
      · cases h
    | fbR row col =>
      simp only [hostStep, portOp_running hr] at h
      split at h
      · cases h; exact .read _ _ (by simp) (by simp)
      · cases h

/-- A step that answers a next state is idle or makes one move of its first pending operation. -/
theorem step_move {s t : State} (h : step s = .next t) :
    (s.ops = [] ∧ t = s) ∨ ∃ op rest, s.ops = op :: rest ∧ HostMove (s.nextOp rest) op t := by
  cases ho : s.ops with
  | nil => simp only [step, ho] at h; cases h; exact .inl ⟨rfl, rfl⟩
  | cons op rest => rw [step_cons ho] at h; exact .inr ⟨op, rest, rfl, hostStep_move h⟩

end Sys2Proof.Machine
end

