-- ==== Sys2Proof/Tests/Slice0.lean ====
section
/-! SUPPORT. The model's own tests. Expected values are the spec's: the encodings of spec/30_encoding.md R92 and the
vectors of spec/95_test_vectors.md, named at each test. Then, for every statement with hypotheses, a witness that
meets them. -/
namespace Sys2Proof.Tests
open Sys2Proof Sys2Proof.Machine

/-! ## Well-formedness: each check refuses an ill-formed term and takes the last good one -/

theorem test_wf_bufW : HostOp.wellFormed (.bufW 262144 0) = false ∧ HostOp.wellFormed (.bufW 262143 0) = true := by
  decide
theorem test_wf_bufR : HostOp.wellFormed (.bufR 262144) = false ∧ HostOp.wellFormed (.bufR 262143) = true := by decide
theorem test_wf_tgR : HostOp.wellFormed (.tgR 65536) = false ∧ HostOp.wellFormed (.tgR 65535) = true := by decide
theorem test_wf_agR : HostOp.wellFormed (.agR 65536) = false ∧ HostOp.wellFormed (.agR 65535) = true := by decide
theorem test_wf_fbR_row :
    HostOp.wellFormed (.fbR 16384 0) = false ∧ HostOp.wellFormed (.fbR 16383 16383) = true := by decide
theorem test_wf_fbR_col : HostOp.wellFormed (.fbR 0 16384) = false := by decide

/-! ## Decoding: words written bit by bit from R92 -/

theorem test_word_nop : decodeWord 0b00000000000000000000000000000000#32 = .ok .nop := by rfl
theorem test_word_dinit : decodeWord 0b00000000000000000000000000000001#32 = .ok .dinit := by rfl
theorem test_word_dstep : decodeWord 0b00000000000000000000000000000010#32 = .ok .dstep := by rfl
theorem test_word_decrypt : decodeWord 0b00000000000000000000000000000011#32 = .ok .decrypt := by rfl
theorem test_word_deobf : decodeWord 0b00000000000000000000000000000100#32 = .ok .deobf := by rfl
theorem test_word_decmap : decodeWord 0b00000000000000000000000000000101#32 = .ok .decmap := by rfl
theorem test_word_decatt : decodeWord 0b00000000000000000000000000000110#32 = .ok .decatt := by rfl
theorem test_word_sample : decodeWord 0b00000000000000000000000000000111#32 = .ok .sample := by rfl
theorem test_word_render : decodeWord 0b00000000000000000000000000001000#32 = .ok .render := by rfl
/-- V50's three illegal words. -/
theorem test_word_illegal :
    decodeWord 0x00000009#32 = .error .noSuchOpcode ∧ decodeWord 0x00000100#32 = .error .reservedBits ∧
    decodeWord 0xFFFFFFFF#32 = .error .reservedBits := ⟨rfl, rfl, rfl⟩
/-- A table word of 32 bits is the command word; 33 bits are none. -/
theorem test_table_word :
    decodeTableWord 32 8 = some .render ∧ decodeTableWord 32 9 = none ∧ decodeTableWord 64 0x100000008 = none := by
  decide

/-! ## Small states -/

/-- After reset, with these bytes in BUF from address 0 and LEN their number. -/
def loaded (bs : List Byte) : State :=
  { State.reset with buf := Memory.block 0 bs, len := BitVec.ofNat 32 bs.length }

/-- The state after a command. -/
def after (i : Instr) (s : State) : State :=
  match exec i s with
  | .next t => t
  | .fault _ => s
  | .refused _ => s

/-- The first `n` bytes of BUF. -/
def bytes (s : State) (n : Nat) : List Byte := (List.range n).map (bufRead s)

/-- A terrain grid of side `n` held in TG, the configuration that renders it at resolution `r`. -/
def grid (n r : Nat) (cells : List TerrainCell) : State :=
  { State.reset with
    n := BitVec.ofNat 16 n, tgN := BitVec.ofNat 16 n, r := BitVec.ofNat 16 r, nvis := BitVec.ofNat 16 n, status := 1,
    tg := Memory.block 0 cells }

/-- A 1×1 texture of one colour. -/
def flat (c : Colour) : TileAsset := ⟨1, 1, [c]⟩

/-- Tiles 0 and 1 of TEX-B, whose textures are flat: one texel gives the same samples as 64×64 equal ones. -/
def texB : Memory TileAsset := [(0, flat ⟨10, 20, 30⟩), (1, flat ⟨200, 100, 50⟩)]

/-! ## The commands -/

/-- R124's example: STATUS 0x38, then NOP, gives 0x08. -/
theorem test_nop_clears_err : (after .nop { State.reset with status := 0x38 }).status = 0x08 := by decide

/-- R142's example. -/
theorem test_dinit :
    (after .dinit { State.reset with key := 0x9A, pos := 7 }).key = 0x5E ∧
    (after .dinit { State.reset with key := 0x9A, pos := 7 }).pos = 0 := by decide

/-- V17, step 1. -/
theorem test_dstep_first :
    let t := after .dstep { State.reset with sdata := 0x7A }
    t.sdata = 0x4D ∧ t.key = 0xB7 ∧ t.pos = 1 := by decide

/-- V17, step 4: the key sum wraps. -/
theorem test_dstep_fourth :
    let t := after .dstep { State.reset with sdata := 0xC9, key := 0xCB, pos := 3 }
    t.sdata = 0x74 ∧ t.key = 0x06 ∧ t.pos = 4 := by decide

/-- R144's example. -/
theorem test_decrypt_zeros :
    let t := after .decrypt (loaded [0, 0, 0, 0])
    bytes t 4 = [0x73, 0x36, 0x15, 0xB9] ∧ t.key = 0x3D ∧ t.pos = 4 := by decide

/-- V14: "MU terrain". -/
theorem test_decrypt_text :
    let t := after .decrypt (loaded [0x7A, 0x7F, 0x8E, 0xC9, 0xB9, 0xF2, 0x6A, 0x2F, 0xEB, 0x39])
    bytes t 10 = [0x4D, 0x55, 0x20, 0x74, 0x65, 0x72, 0x72, 0x61, 0x69, 0x6E] ∧ t.key = 0x76 := by decide

/-- V14, forward. -/
theorem test_encrypt_text :
    encrypt [0x4D, 0x55, 0x20, 0x74, 0x65, 0x72, 0x72, 0x61, 0x69, 0x6E] =
      [0x7A, 0x7F, 0x8E, 0xC9, 0xB9, 0xF2, 0x6A, 0x2F, 0xEB, 0x39] := by decide

/-- R147's example. -/
theorem test_deobf :
    bytes (after .deobf (loaded [1, 2, 3, 4, 5])) 5 = [0xFD, 0xCD, 0xA8, 0xF8, 0xCA] := by decide

/-- V27: LEN = 262145. -/
theorem test_deobf_too_long : (after .deobf { State.reset with len := 262145 }).status = 0x48 := by decide

/-- V20. -/
theorem test_decmap :
    let t := after .decmap
      { loaded [0xAA, 0, 1, 2, 3, 0xFF, 0xFF, 4, 0xFF, 0, 0x80, 0xFF, 0x40] with n := 2 }
    (List.range 4).map (tgRead t) = [⟨0, 0xFF, 0⟩, ⟨1, 0xFF, 0x80⟩, ⟨2, 4, 0xFF⟩, ⟨3, 0xFF, 0x40⟩] ∧ t.tgN = 2 ∧
    t.status = 0x01 := by decide

/-- V22. -/
theorem test_decmap_too_small :
    (after .decmap { State.reset with n := 2, len := 11 }).status = 0x18 ∧
    (after .decmap { State.reset with n := 2, len := 11 }).tgN = 0 := by decide

/-- V24, word layout. -/
theorem test_decatt_word :
    let t := after .decatt
      { loaded [0x11, 0x22, 0x33, 0x44, 0x05, 0xA0, 0x00, 0xA1, 0xFB, 0xA2, 0x02, 0xA3] with n := 2 }
    (List.range 4).map (agRead t) = [0x05, 0x00, 0xFB, 0x02] ∧ t.agN = 2 ∧ t.status = 0x02 := by decide

/-- V25: LEN = 7 with N = 1 is the byte layout. -/
theorem test_decatt_byte :
    agRead (after .decatt { loaded [0x10, 0x11, 0x12, 0x13, 0x07, 0x99, 0x21] with n := 1 }) 0 = 0x21 := by decide

/-- V24's last sentence: `ATT_LOW_OFF` = 1 reads the other byte of each cell. -/
theorem test_word_layout_other_offset :
    let s := loaded [0x11, 0x22, 0x33, 0x44, 0x05, 0xA0, 0x00, 0xA1, 0xFB, 0xA2, 0x02, 0xA3]
    (List.range 4).map (wordLayoutAttr s 1) = [0xA0, 0xA1, 0xA2, 0xA3] := by decide

/-- V28, row 6: the texel that tile 1 (256×256) is sampled at. -/
theorem test_sample_texel :
    texelCoord (effU false 64 256 2 0 (pixelCentre 1 3)) 256 = 160 ∧
    texelCoord (effV false 64 256 2 0 0 (pixelCentre 1 3) (pixelCentre 2 3)) 256 = 53 := by decide +kernel

/-- V31: an absent tile and one of width 0 are magenta misses. -/
theorem test_sample_miss :
    let s : State := { State.reset with r := 4, sTile := 9, tex := [(5, ⟨0, 64, []⟩)] }
    (after .sample s).sRgb = 0xFF00FF ∧ (after .sample s).status = 0x04 ∧
    (after .sample { s with sTile := 5 }).sRgb = 0xFF00FF := by decide +kernel

/-- V33, codes 5 and 6. -/
theorem test_symmetry :
    symXform 5 (1 / 8) (3 / 8) = (5 / 8, 1 / 8) ∧ symXform 6 (1 / 8) (3 / 8) = (3 / 8, 7 / 8) := by decide +kernel

/-- The frame of PRG4: the blend of cell (0, 0), the clamp, the shortcut. -/
theorem test_render_blend :
    let s := { grid 2 1 [⟨0, 1, 0⟩, ⟨0, 1, 255⟩, ⟨1, 255, 0⟩, ⟨1, 0, 255⟩] with tex := texB }
    fbRead (after .render s) 0 0 = ⟨0x69, 0x3C, 0x28⟩ ∧ fbRead (after .render s) 0 1 = ⟨0xC8, 0x64, 0x32⟩ ∧
    fbRead (after .render s) 1 0 = ⟨0xC8, 0x64, 0x32⟩ ∧ fbRead (after .render s) 1 1 = ⟨0x0A, 0x14, 0x1E⟩ ∧
    (after .render s).fbSide = 2 ∧ (after .render s).status = 0x01 := by decide +kernel

/-- V44: four saturated corners and the sentinel overlay sample the absent tile 255. -/
theorem test_render_sentinel_saturated :
    let s := { grid 1 1 [⟨0, 255, 255⟩] with tex := texB }
    fbRead (after .render s) 0 0 = ⟨255, 0, 255⟩ ∧ (after .render s).status = 0x05 := by decide +kernel

/-- V45's top left pixel under both roundings. -/
theorem test_blend_rounding :
    blend .floor ⟨10, 20, 30⟩ ⟨200, 100, 50⟩ (1456 / 4080) = ⟨0x4D, 0x30, 0x25⟩ ∧
    blend .nearest ⟨10, 20, 30⟩ ⟨200, 100, 50⟩ (1456 / 4080) = ⟨0x4E, 0x31, 0x25⟩ := by decide +kernel

/-- V46: alpha exactly 1/1000 does not pass the threshold, its neighbour does. -/
theorem test_threshold :
    bilinearAlpha 2 0 0 0 (pixelCentre 1 10) (pixelCentre 8 10) = 1 / 1000 ∧
    decide (1 / 1000 < bilinearAlpha 2 0 0 0 (pixelCentre 0 10) (pixelCentre 8 10)) = true := by decide +kernel

/-! ## The ports -/

/-- V52: truncation, an RO register, CTRL. -/
theorem test_register_writes :
    (storeReg State.reset .n 0x00012345).n = 0x2345 ∧ (storeReg State.reset .key 0x11).key = 0x5E ∧
    (storeReg State.reset .sSym 0xFF).sSym = 7 ∧ (storeReg State.reset .ctrl 0xFFFFFFFF).ctrl = 1 := by decide

/-- R122's example, and V52's reads of CMD and of 0x20. -/
theorem test_register_reads :
    hostRead 0x0B State.reset = 0x5E ∧ hostRead 0x03 State.reset = 256 ∧ hostRead 0x07 State.reset = 64 ∧
    hostRead 0x00 State.reset = 0 ∧ hostRead 0x20 State.reset = 0 := by decide

/-- V51: BadConfig comes before NoGrid; run as the host runs it, as the next command word after reset. -/
theorem test_fetch_word_runs :
    (match step (State.reset.withFetchWord 32 8) with
     | .next t => t.status
     | .fault _ => 0
     | .refused _ => 0) = 0x48 := by decide

/-! ## Witnesses: for each statement with hypotheses, a state and operands that meet them, clause by clause -/

/-- A machine with a decoded 1×1 terrain grid, a frame of one pixel and a failed command behind it. -/
def used (ops : List HostOp) (status : BitVec 32) : State :=
  { grid 1 1 [⟨3, 4, 5⟩] with
    buf := [(0, 7), (262143, 8)], fb := [(0, ⟨1, 2, 3⟩)], fbSide := 1, tex := texB, status := status, ops := ops }

theorem used_frame : frameListed 1 [(0, ⟨1, 2, 3⟩)] := by
  intro row col hr hc
  simp only [Config.fbSideMax] at hr hc
  have h : 0 = row * 16384 + col ↔ row < 1 ∧ col < 1 := by omega
  simp [Memory.lookup, fbAddr, Config.fbSideMax, h]

theorem used_inv_idle (status : BitVec 32) (h : status = 0x01 ∨ status = 0x59) : (used [] status).Inv := by
  rcases h with rfl | rfl <;>
    exact
      { bufForm := by unfold Memory.below; decide
        tgForm := by unfold Memory.below; decide
        agForm := by unfold Memory.below; decide
        fbForm := by unfold Memory.below; decide
        texForm := by unfold Memory.below; decide
        statusReserved := by decide
        ctrlReserved := by decide
        errCode := by decide
        errSticky := by decide
        tgValidIff := by decide
        agValidIff := by decide
        tgGrid := ⟨by decide, by unfold Memory.holdsGrid; decide⟩
        agGrid := ⟨by decide, by unfold Memory.holdsGrid; decide⟩
        fbFrame := ⟨by decide, used_frame⟩ }

theorem used_inv (ops : List HostOp) (status : BitVec 32) (h : status = 0x01 ∨ status = 0x59) :
    (used ops status).Inv := { used_inv_idle status h with }

theorem witness_StepKeepsInvariant : (used [.bufW 5 6] 0x59).Inv ∧ ∃ t, step (used [.bufW 5 6] 0x59) = .next t :=
  ⟨used_inv _ _ (.inr rfl), _, rfl⟩

theorem witness_ResetInputHoldsAndReleases :
    (∃ (s t : State) (rest : List HostOp), s.inReset = true ∧ s.ops = HostOp.wr 0x00 2 :: rest ∧ step s = .next t) ∧
    (∃ (s : State) (rest : List HostOp), s.inReset = true ∧ s.ops = HostOp.releaseReset :: rest) ∧
    (∃ (s : State) (rest : List HostOp), s.inReset = false ∧ s.ops = HostOp.assertReset :: rest) :=
  ⟨⟨{ State.reset with inReset := true, ops := [.wr 0x00 2] }, _, [], rfl, rfl, rfl⟩,
   ⟨{ State.reset with inReset := true, ops := [.releaseReset] }, [], rfl, rfl⟩,
   ⟨{ State.reset with ops := [.assertReset] }, [], rfl, rfl⟩⟩

theorem witness_DecoderClassifiesEveryWord :
    (0x100#32).toNat / 256 ≠ 0 ∧ ((9#32).toNat / 256 = 0 ∧ 9 ≤ (9#32).toNat % 256) ∧
    ((0xFF#32).toNat / 256 = 0 ∧ 9 ≤ (0xFF#32).toNat % 256) ∧ ((8#32).toNat / 256 = 0 ∧ (8#32).toNat % 256 < 9) := by
  decide

/-- The reset state with one pending operation. -/
def pending (op : HostOp) : State := { State.reset with ops := [op] }

theorem witness_StepRunsDecodedCommand :
    (pending (.wr 0x00 8)).inReset = false ∧ (pending (.wr 0x00 8)).ops = .wr 0x00 8 :: [] ∧
    decodeWord 8 = .ok .render := ⟨rfl, rfl, rfl⟩

theorem witness_IllegalWordSetsStatusOnly :
    (pending (.wr 0x00 9)).inReset = false ∧ (pending (.wr 0x00 9)).ops = .wr 0x00 9 :: [] ∧
    9 ≤ (9#32).toNat % 256 ∧ (pending (.wr 0x00 0x100)).ops = .wr 0x00 0x100 :: [] ∧
    (0x100#32).toNat / 256 ≠ 0 := by decide

theorem witness_IdleStepChangesNothing : State.reset.ops = [] := rfl

theorem witness_FailedCommandChangesStatusOnly :
    ∃ t, exec .sample State.reset = .next t ∧ Status.err t.status ≠ 0 := ⟨_, rfl, by decide⟩

theorem witness_CommandFrameOfEveryCommand : ∃ t, exec .dstep State.reset = .next t := ⟨_, rfl⟩

theorem witness_OnlyResetClearsStickyFlags :
    ∃ s t, step s = .next t ∧ s.ops.head? ≠ some .releaseReset ∧ Status.esticky s.status = true ∧
      Status.tgValid s.status = true ∧ Status.agValid s.status = true :=
  ⟨{ pending (.wr 0x00 0) with status := 0x0B }, _, rfl, by decide, by decide, by decide, by decide⟩

theorem witness_NoErrorRecordedMeansNoneFailed :
    ∃ s t, s.Inv ∧ HostOp.releaseReset ∉ s.ops ∧ stepN 2 s = .next t ∧ t.noErrorRecorded :=
  ⟨used [.wr 0x00 0, .wr 0x00 1] 0x01, _, used_inv _ _ (.inl rfl), by decide, rfl, by unfold State.noErrorRecorded; decide⟩

theorem witness_OnlyOwnCommandWritesGridsAndFrame :
    ∃ s t, step s = .next t ∧ s.ops.head? ≠ some .releaseReset ∧ s.ops.head? ≠ some (.wr 0x00 5) ∧
      s.ops.head? ≠ some (.wr 0x00 6) ∧ s.ops.head? ≠ some (.wr 0x00 8) :=
  ⟨pending (.wr 0x00 7), _, rfl, by decide, by decide, by decide, by decide⟩

theorem witness_OnlyCipherCommandsWriteKey :
    ∃ s t, step s = .next t ∧ s.ops.head? ≠ some .releaseReset ∧
      s.ops.head? ∉ [some (HostOp.wr 0x00 1), some (.wr 0x00 2), some (.wr 0x00 3)] :=
  ⟨pending (.wr 0x00 4), _, rfl, by decide, by decide⟩

theorem witness_DecryptBytesAndFrame :
    bufferFits (loaded [1, 2, 3]) ∧ bufferFits State.reset ∧ bufferFits { State.reset with len := 262144 } ∧
    ¬ bufferFits { State.reset with len := 262145 } := by
  unfold bufferFits; decide

theorem witness_DecryptInvertsEncrypt :
    (let ps : List Byte := [0x4D, 0x55]
     bufferFits (loaded (encrypt ps)) ∧ (loaded (encrypt ps)).len.toNat = ps.length ∧
      ∀ i, i < ps.length → bufRead (loaded (encrypt ps)) i = (encrypt ps).getD i 0) ∧
    (bufferFits (loaded (encrypt [])) ∧ (loaded (encrypt [])).len.toNat = 0) ∧ 1 < [0x4D#8, 0x55#8].length := by
  unfold bufferFits; decide

theorem witness_StreamAgreesWithDecrypt :
    let bs : List Byte := [0x7A, 0x7F]
    let s : State := { State.reset with ops := stream bs ++ [.rd 0x0B] }
    s.inReset = false ∧ s.ops = stream bs ++ [.rd 0x0B] ∧ bufferFits (loaded bs) ∧
      (loaded bs).len.toNat = bs.length ∧ ∀ i, i < bs.length → bufRead (loaded bs) i = bs.getD i 0 := by
  unfold bufferFits; decide

theorem witness_DecryptReadsNeighbourBytesOnly :
    let s := loaded [9, 2, 3]
    let s' := { loaded [8, 2, 3, 4] with key := 1, pos := 2 }
    bufferFits s ∧ bufferFits s' ∧ 2 < s.len.toNat ∧ 2 < s'.len.toNat ∧ bufRead s 2 = bufRead s' 2 ∧
      (2 ≠ 0 → bufRead s (2 - 1) = bufRead s' (2 - 1)) ∧
      (∃ t, exec .decrypt s = .next t) ∧ (∃ t, exec .decrypt s' = .next t) :=
  ⟨by unfold bufferFits; decide, by unfold bufferFits; decide, by decide, by decide, by decide, by decide,
   ⟨_, rfl⟩, ⟨_, rfl⟩⟩

theorem witness_DeobfXorsWithTable :
    bufferFits (loaded [1, 2, 3, 4, 5]) ∧ bufferFits { State.reset with len := 262144 } ∧
    ¬ bufferFits { State.reset with len := 262145 } := by
  unfold bufferFits; decide

theorem witness_DeobfTwiceRestoresBuffer : bufferFits (loaded [1, 2, 3, 4, 5]) := by unfold bufferFits; decide

/-- The reset state with these N and LEN. -/
def sized (n : BitVec 16) (len : BitVec 32) : State := { State.reset with n := n, len := len }

theorem witness_DecmapFillsTerrainGrid :
    (decoderConfigured (sized 1 3) ∧ 3 * (sized 1 3).n.toNat * (sized 1 3).n.toNat ≤ (sized 1 3).len.toNat) ∧
    (decoderConfigured (sized 256 262144) ∧
      3 * (sized 256 262144).n.toNat * (sized 256 262144).n.toNat ≤ (sized 256 262144).len.toNat) := by
  unfold decoderConfigured; decide

theorem witness_DecmapErrors :
    ¬ decoderConfigured (sized 0 0) ∧ ¬ decoderConfigured (sized 257 0) ∧ ¬ decoderConfigured (sized 1 262145) ∧
    decoderConfigured (sized 2 11) ∧ (sized 2 11).len.toNat < 3 * (sized 2 11).n.toNat * (sized 2 11).n.toNat ∧
    decoderConfigured (sized 2 12) ∧ 3 * (sized 2 12).n.toNat * (sized 2 12).n.toNat ≤ (sized 2 12).len.toNat := by
  unfold decoderConfigured; decide

theorem witness_DecattWordLayout :
    (decoderConfigured (sized 1 6) ∧ (sized 1 6).len.toNat = 4 + 2 * (sized 1 6).n.toNat * (sized 1 6).n.toNat) ∧
    (decoderConfigured (sized 256 131076) ∧
      (sized 256 131076).len.toNat = 4 + 2 * (sized 256 131076).n.toNat * (sized 256 131076).n.toNat) := by
  unfold decoderConfigured; decide

theorem witness_DecattByteLayout :
    (decoderConfigured (sized 1 1) ∧ (sized 1 1).len.toNat ≠ 4 + 2 * (sized 1 1).n.toNat * (sized 1 1).n.toNat ∧
      (sized 1 1).n.toNat * (sized 1 1).n.toNat ≤ (sized 1 1).len.toNat) ∧
    (decoderConfigured (sized 1 7) ∧ (sized 1 7).len.toNat ≠ 4 + 2 * (sized 1 7).n.toNat * (sized 1 7).n.toNat ∧
      (sized 1 7).n.toNat * (sized 1 7).n.toNat ≤ (sized 1 7).len.toNat) := by
  unfold decoderConfigured; decide

theorem witness_DecattErrors :
    ¬ decoderConfigured (sized 0 0) ∧ decoderConfigured (sized 2 3) ∧
    (sized 2 3).len.toNat < (sized 2 3).n.toNat * (sized 2 3).n.toNat ∧
    (decoderConfigured (sized 2 4) ∧ (sized 2 4).n.toNat * (sized 2 4).n.toNat ≤ (sized 2 4).len.toNat) := by
  unfold decoderConfigured; decide

theorem witness_DecodersArePure :
    let s := { loaded [1, 2, 3] with n := 1 }
    let s' := { loaded [1, 2, 3] with n := 1, key := 0, r := 5 }
    s.len = s'.len ∧ s.n = s'.n ∧ SameBuf s s' ∧
      (∃ t, exec .decmap s = .next t ∧ Status.err t.status = 0) ∧ (∃ t, exec .decmap s' = .next t) ∧
      (∃ t, exec .decatt s = .next t ∧ Status.err t.status = 0) ∧ (∃ t, exec .decatt s' = .next t) :=
  ⟨rfl, rfl, fun _ => rfl, ⟨_, rfl, by decide⟩, ⟨_, rfl⟩, ⟨_, rfl, by decide⟩, ⟨_, rfl⟩⟩

/-- The reset state with these R, S_PX and S_PY. -/
def pixel (r px py : BitVec 16) : State := { State.reset with r := r, sPx := px, sPy := py }

theorem witness_SampleWritesColour : sampleConfigured (pixel 1 0 0) ∧ sampleConfigured (pixel 64 63 63) := by
  unfold sampleConfigured; decide

theorem witness_SampleBadConfig :
    ¬ sampleConfigured (pixel 0 0 0) ∧ ¬ sampleConfigured (pixel 65 0 0) ∧ ¬ sampleConfigured (pixel 4 4 0) ∧
    ¬ sampleConfigured (pixel 4 0 4) := by
  unfold sampleConfigured; decide

/-- The reset state with tile 0 a 2×1 texture, tile 5 of width 0 and tile 6 of height 0. -/
def textured : State :=
  { State.reset with tex := [(0, ⟨2, 1, [⟨1, 2, 3⟩, ⟨4, 5, 6⟩]⟩), (5, ⟨0, 64, []⟩), (6, ⟨64, 0, []⟩)] }

theorem witness_SampleMissesAreFlat :
    texAsset textured 9 = none ∧ (∃ a, texAsset textured 5 = some a ∧ (a.width = 0 ∨ a.height = 0)) ∧
    (∃ a, texAsset textured 6 = some a ∧ (a.width = 0 ∨ a.height = 0)) :=
  ⟨rfl, ⟨_, rfl, by decide⟩, ⟨_, rfl, by decide⟩⟩

theorem witness_SampledTexelClosedForms :
    (∃ a, texAsset textured 0 = some a ∧ a.width ≠ 0 ∧ a.height ≠ 0) ∧ isWater textured 0 = false ∧
    texAsset (storeReg textured (.wmask 0) 1) 0 = texAsset textured 0 ∧
    isWater (storeReg textured (.wmask 0) 1) 0 = true :=
  ⟨⟨_, rfl, by decide, by decide⟩, by decide, rfl, by decide⟩

theorem witness_PixelCentreTexelClosedForm :
    (∃ a, texAsset textured 0 = some a ∧ a.width ≠ 0 ∧ a.height ≠ 0 ∧ 1 ≤ 4 ∧ 0 < 4 ∧ 3 < 4 ∧
      isWater textured 0 = false) ∧
    texAsset (storeReg textured (.wmask 0) 1) 0 = texAsset textured 0 ∧
    isWater (storeReg textured (.wmask 0) 1) 0 = true :=
  ⟨⟨_, rfl, by decide, by decide, by decide, by decide, by decide, by decide⟩, rfl, by decide⟩

theorem witness_WaterScrollIsPeriodic : 1 ≤ 1 ∧ 1 ≤ 65535 := by decide

theorem witness_WaterMaskBits : (0#8).toNat / 32 = (0 : Fin 8).val ∧ (255#8).toNat / 32 = (7 : Fin 8).val := by decide

/-- A 1×1 attribute grid beside a 1×1 terrain grid, symmetry enabled. -/
def symmetric : State := { grid 1 1 [⟨0, 1, 9⟩] with ctrl := 1, agN := 1, ag := [(0, 5)] }

theorem witness_RenderDrawsRegion :
    (renderConfigured symmetric ∧ gridsMatch symmetric) ∧
    (renderConfigured { symmetric with nvis := 0, ctrl := 0, agN := 0 } ∧
      gridsMatch { symmetric with nvis := 0, ctrl := 0, agN := 0 }) ∧
    renderConfigured { symmetric with r := 64, nvis := 256 } := by
  unfold renderConfigured gridsMatch; decide

theorem witness_RenderFrameIsFresh :
    renderConfigured symmetric ∧ gridsMatch symmetric ∧ 1 < 16384 ∧ 0 < 16384 ∧
    ¬ (1 < symmetric.nvis.toNat * symmetric.r.toNat ∧ 0 < symmetric.nvis.toNat * symmetric.r.toNat) := by
  unfold renderConfigured gridsMatch; decide

theorem witness_RenderErrors :
    (renderConfigured symmetric ∧ gridsMatch symmetric) ∧
    ¬ renderConfigured { symmetric with n := 0 } ∧ ¬ renderConfigured { symmetric with n := 257 } ∧
    ¬ renderConfigured { symmetric with r := 0 } ∧ ¬ renderConfigured { symmetric with r := 65 } ∧
    ¬ renderConfigured { symmetric with r := 64, nvis := 257 } ∧
    (renderConfigured { symmetric with n := 2 } ∧ ¬ gridsMatch { symmetric with n := 2 }) ∧
    (renderConfigured { symmetric with agN := 0 } ∧ ¬ gridsMatch { symmetric with agN := 0 }) := by
  unfold renderConfigured gridsMatch; decide

theorem witness_SaturatedCellShowsOverlay :
    let s := grid 1 1 [⟨0, 255, 255⟩]
    (cornerCell s 0 0).alpha = 255 ∧ (cornerCell s (0 + 1) 0).alpha = 255 ∧
    (cornerCell s (0 + 1) (0 + 1)).alpha = 255 ∧ (cornerCell s 0 (0 + 1)).alpha = 255 := by decide

theorem witness_DisabledOverlayShowsBase :
    let s := grid 1 1 [⟨0, 255, 254⟩]
    let z := grid 1 1 [⟨0, 1, 0⟩]
    (¬ ((cornerCell s 0 0).alpha = 255 ∧ (cornerCell s (0 + 1) 0).alpha = 255 ∧
       (cornerCell s (0 + 1) (0 + 1)).alpha = 255 ∧ (cornerCell s 0 (0 + 1)).alpha = 255) ∧
      (cornerCell s 0 0).overlay = 255) ∧
    (¬ ((cornerCell z 0 0).alpha = 255 ∧ (cornerCell z (0 + 1) 0).alpha = 255 ∧
       (cornerCell z (0 + 1) (0 + 1)).alpha = 255 ∧ (cornerCell z 0 (0 + 1)).alpha = 255) ∧
      (cornerCell z 0 0).alpha = 0 ∧ (cornerCell z (0 + 1) 0).alpha = 0 ∧
       (cornerCell z (0 + 1) (0 + 1)).alpha = 0 ∧ (cornerCell z 0 (0 + 1)).alpha = 0) := by decide

/-- V46's grid at R = 10: pixel (1, 8) stands exactly at the threshold, (0, 8) above it. -/
theorem witness_EnabledOverlayBlends :
    let s := grid 2 10 [⟨1, 0, 2⟩, ⟨1, 0, 0⟩, ⟨1, 0, 0⟩, ⟨1, 0, 0⟩]
    let c1 := cornerCell s 0 0
    let c2 := cornerCell s (0 + 1) 0
    let c3 := cornerCell s (0 + 1) (0 + 1)
    let c4 := cornerCell s 0 (0 + 1)
    let num (px py : Nat) := alphaNumerator s.r.toNat c1.alpha.toNat c2.alpha.toNat c3.alpha.toNat c4.alpha.toNat px py
    1 ≤ s.r.toNat ∧ 1 < s.r.toNat ∧ 8 < s.r.toNat ∧ c1.overlay ≠ 255 ∧
    ¬ (c1.alpha = 255 ∧ c2.alpha = 255 ∧ c3.alpha = 255 ∧ c4.alpha = 255) ∧
    ¬ (c1.alpha = 0 ∧ c2.alpha = 0 ∧ c3.alpha = 0 ∧ c4.alpha = 0) ∧
    50 * num 1 8 ≤ 51 * s.r.toNat * s.r.toNat ∧ 51 * s.r.toNat * s.r.toNat < 50 * num 0 8 := by decide

theorem witness_BilinearAlphaIsFraction : 1 ≤ 64 ∧ 63 < 64 ∧ 0 < 64 ∧ 0 ≤ 255 ∧ 255 ≤ 255 := by decide

theorem witness_BlendStaysBetweenChannels :
    ((0 : Rat) ≤ 0 ∧ (0 : Rat) ≤ 1) ∧ ((0 : Rat) ≤ 1 ∧ (1 : Rat) ≤ 1) ∧ ((0 : Rat) ≤ 1 / 4 ∧ (1 / 4 : Rat) ≤ 1) := by
  norm_num

theorem witness_CornersClampToEdge :
    (1 ≤ 2 ∧ 2 - 1 ≤ 1) ∧ (1 ≤ 256 ∧ 256 - 1 ≤ 300) ∧ (1 ≤ 256 ∧ 255 < 256 ∧ 0 < 256) := by decide

theorem witness_HostRegisterWrite :
    ((pending (.wr 0x06 0xFFFFFFFF)).inReset = false ∧
      (pending (.wr 0x06 0xFFFFFFFF)).ops = .wr 0x06 0xFFFFFFFF :: [] ∧ (0x06 : Byte) ≠ 0) ∧
    regOfNumber 0x06 = some .ctrl ∧ regOfNumber 0x20 = none ∧ (regOfNumber 0x0B = some .key ∧ readOnly .key = true) ∧
    (regOfNumber 0x1F = some (.wmask 7) ∧ readOnly (.wmask 7) = false) := by decide

theorem witness_RegisterNumbers : 0x20 ≤ (0x20#8).toNat ∧ 0x20 ≤ (0xFF#8).toNat := by decide

theorem witness_HostRegisterRead :
    (pending (.rd 0x0B)).inReset = false ∧ (pending (.rd 0x0B)).ops = .rd 0x0B :: [] ∧
    regOfNumber 0x0B = some .key ∧ 0x20 ≤ (0x20#8).toNat := by decide

theorem witness_MemoryPorts :
    (pending (.bufW 262143 9)).inReset = false ∧
    (262143 < 262144 ∧ (pending (.bufW 262143 9)).ops = .bufW 262143 9 :: []) ∧
    (pending (.bufR 0)).ops = .bufR 0 :: [] ∧ (65535 < 65536 ∧ (pending (.tgR 65535)).ops = .tgR 65535 :: []) ∧
    (pending (.agR 65535)).ops = .agR 65535 :: [] ∧
    (16383 < 16384 ∧ (pending (.fbR 16383 0)).ops = .fbR 16383 0 :: []) := by decide

/-- Each port operation one past its range is refused under its own name. -/
theorem witness_RefusedExactlyOutOfRange :
    step (pending (.bufW 262144 0)) = .refused .bufAddressOutOfRange ∧
    step (pending (.bufR 262144)) = .refused .bufAddressOutOfRange ∧
    step (pending (.tgR 65536)) = .refused .tgCellOutOfRange ∧
    step (pending (.agR 65536)) = .refused .agCellOutOfRange ∧
    step (pending (.fbR 0 16384)) = .refused .fbPixelOutOfRange ∧
    step (pending (.fbR 16384 0)) = .refused .fbPixelOutOfRange := ⟨rfl, rfl, rfl, rfl, rfl, rfl⟩

theorem witness_TextureLoads :
    (pending (.texLoad 255 (flat ⟨1, 2, 3⟩))).ops = .texLoad 255 (flat ⟨1, 2, 3⟩) :: [] ∧
    (pending (.texUnload 0)).ops = .texUnload 0 :: [] := ⟨rfl, rfl⟩

/-- An absent tile becomes present by a load and absent again by an unload. -/
theorem test_texture_load_unload :
    (match stepN 1 { State.reset with ops := [.texLoad 1 (flat ⟨1, 2, 3⟩)] } with
     | .next t => texAsset t 1 = some (flat ⟨1, 2, 3⟩) ∧ texAsset t 0 = none
     | .fault _ => False
     | .refused _ => False) := by
  refine ⟨?_, ?_⟩ <;> decide

end Sys2Proof.Tests
end

section
/-! What a command can do, said once: the moves of each command, what only some of them write, and the words that
run them. -/
namespace Sys2Proof.Machine

variable {s t : State}

/-- The ways command `i` can end from `s`, with the check that it passed and the codes of its row of R240. -/
inductive CommandMove (s : State) : Instr → State → Prop
  /-- A command that leaves MISS alone raised one of its errors. -/
  | raised (i : Instr) (e : ErrCode)
      (he : (i, e) ∈ [(.decrypt, .badConfig), (.deobf, .badConfig), (.decmap, .badConfig), (.decmap, .tooSmall),
        (.decatt, .badConfig), (.decatt, .badAttLayout)]) : CommandMove s i (raise e s)
  /-- SAMPLE or RENDER raised one of its errors, MISS cleared. -/
  | raisedNoMiss (i : Instr) (e : ErrCode)
      (he : (i, e) ∈ [(.sample, .badConfig), (.render, .badConfig), (.render, .noGrid)]) :
      CommandMove s i (raise e (setMiss false s))
  | nop : CommandMove s .nop (complete s)
  | dinit : CommandMove s .dinit (complete (s.setCipher Config.keyInit 0))
  | dstep : CommandMove s .dstep
      (complete ((s.setSdata (decOut s.key s.pos s.sdata)).setCipher (decKey s.sdata) (s.pos + 1)))
  | decrypt (out : List Byte × Byte × BitVec 32) (ho : out = decStream Config.keyInit 0 (bufBytes s s.len.toNat))
      (hf : bufferFits s) :
      CommandMove s .decrypt (complete ((s.setBuf (Memory.writeBlock s.buf 0 out.1)).setCipher out.2.1 out.2.2))
  | deobf (hf : bufferFits s) :
      CommandMove s .deobf (complete (s.setBuf (Memory.writeBlock s.buf 0 (xor3 0 (bufBytes s s.len.toNat)))))
  | decmap (hc : decoderConfigured s) (hl : 3 * s.n.toNat * s.n.toNat ≤ s.len.toNat) :
      CommandMove s .decmap (complete (storeTerrain s
        ((List.range (s.n.toNat * s.n.toNat)).map (mapCell s s.len.toNat s.n.toNat))))
  /-- DECATT in either layout; `attr` is the layout's byte of each cell. -/
  | decatt (attr : Nat → Byte)
      (ha : (s.len.toNat = 4 + 2 * s.n.toNat * s.n.toNat ∧ attr = wordLayoutAttr s Config.attLowOff) ∨
        (s.len.toNat ≠ 4 + 2 * s.n.toNat * s.n.toNat ∧ s.n.toNat * s.n.toNat ≤ s.len.toNat ∧
          attr = byteLayoutAttr s s.len.toNat s.n.toNat))
      (hc : decoderConfigured s) :
      CommandMove s .decatt (complete (storeAttributes s ((List.range (s.n.toNat * s.n.toNat)).map attr)))
  | sample (hc : sampleConfigured s) : CommandMove s .sample
      (complete (setMiss (sampleResult s).2 ((setMiss false s).setSample (sampleResult s).1)))
  | render (hc : renderConfigured s) (hg : gridsMatch s) :
      CommandMove s .render (complete (renderFrame Config.blendRound (setMiss false s)))

/-- The state that a command's known outcome names is the one it answers. -/
theorem eq_of_exec_next {i : Instr} {u : State} (hu : exec i s = .next u) (h : exec i s = .next t) : u = t :=
  Host.Outcome.next.inj (hu.symm.trans h)

theorem exec_decmap_move (h : exec .decmap s = .next t) : CommandMove s .decmap t := by
  by_cases hc : decoderConfigured s
  · by_cases hl : 3 * s.n.toNat * s.n.toNat ≤ s.len.toNat
    · obtain rfl := eq_of_exec_next (exec_decmap_runs hc hl) h
      exact .decmap hc hl
    · obtain rfl := eq_of_exec_next (exec_decmap_tooSmall hc (by omega)) h
      exact .raised _ _ (by decide)
  · obtain rfl := eq_of_exec_next (exec_decmap_badConfig hc) h
    exact .raised _ _ (by decide)

theorem exec_decatt_move (h : exec .decatt s = .next t) : CommandMove s .decatt t := by
  by_cases hc : decoderConfigured s
  · by_cases hw : s.len.toNat = 4 + 2 * s.n.toNat * s.n.toNat
    · obtain rfl := eq_of_exec_next (exec_decatt_wordLayout hc hw) h
      exact .decatt _ (.inl ⟨hw, rfl⟩) hc
    · by_cases hl : s.n.toNat * s.n.toNat ≤ s.len.toNat
      · obtain rfl := eq_of_exec_next (exec_decatt_byteLayout hc hw hl) h
        exact .decatt _ (.inr ⟨hw, hl, rfl⟩) hc
      · obtain rfl := eq_of_exec_next (exec_decatt_badAttLayout hc hw (by omega)) h
        exact .raised _ _ (by decide)
  · obtain rfl := eq_of_exec_next (exec_decatt_badConfig hc) h
    exact .raised _ _ (by decide)

theorem exec_render_move (h : exec .render s = .next t) : CommandMove s .render t := by
  by_cases hc : renderConfigured s
  · by_cases hg : gridsMatch s
    · obtain rfl := eq_of_exec_next (exec_render_runs hc hg) h
      exact .render hc hg
    · obtain rfl := eq_of_exec_next (exec_render_noGrid hc hg) h
      exact .raisedNoMiss _ _ (by decide)
  · obtain rfl := eq_of_exec_next (exec_render_badConfig hc) h
    exact .raisedNoMiss _ _ (by decide)

/-- A command that answers a next state made one of its moves. -/
theorem exec_move {i : Instr} (h : exec i s = .next t) : CommandMove s i t := by
  cases i with
  | nop => cases h; exact .nop
  | dinit => cases h; exact .dinit
  | dstep => cases h; exact .dstep
  | decrypt =>
    by_cases hf : bufferFits s
    · obtain rfl := eq_of_exec_next (exec_decrypt_runs hf) h
      exact .decrypt _ rfl hf
    · obtain rfl := eq_of_exec_next (exec_decrypt_badConfig hf) h
      exact .raised _ _ (by decide)
  | deobf =>
    by_cases hf : bufferFits s
    · obtain rfl := eq_of_exec_next (exec_deobf_runs hf) h
      exact .deobf hf
    · obtain rfl := eq_of_exec_next (exec_deobf_badConfig hf) h
      exact .raised _ _ (by decide)
  | decmap => exact exec_decmap_move h
  | decatt => exact exec_decatt_move h
  | sample =>
    by_cases hc : sampleConfigured s
    · obtain rfl := eq_of_exec_next (exec_sample_runs hc) h
      exact .sample hc
    · obtain rfl := eq_of_exec_next (exec_sample_badConfig hc) h
      exact .raisedNoMiss _ _ (by decide)
  | render => exact exec_render_move h

/-! ### What each command leaves as it was -/

/-- Each of TG, AG and FB, with its dimension register, is written by its own command alone (R43, R45). -/
theorem CommandMove.tg_eq {i : Instr} (h : CommandMove s i t) (hi : i ≠ .decmap) : t.tg = s.tg ∧ t.tgN = s.tgN := by
  cases h with
  | decmap => exact absurd rfl hi
  | _ => exact ⟨rfl, rfl⟩

theorem CommandMove.ag_eq {i : Instr} (h : CommandMove s i t) (hi : i ≠ .decatt) : t.ag = s.ag ∧ t.agN = s.agN := by
  cases h with
  | decatt => exact absurd rfl hi
  | _ => exact ⟨rfl, rfl⟩

theorem CommandMove.fb_eq {i : Instr} (h : CommandMove s i t) (hi : i ≠ .render) :
    t.fb = s.fb ∧ t.fbSide = s.fbSide := by
  cases h with
  | render => exact absurd rfl hi
  | _ => exact ⟨rfl, rfl⟩

/-- KEY and POS are written by DINIT, DSTEP and DECRYPT alone (R32, R33). -/
theorem CommandMove.key_pos_eq {i : Instr} (h : CommandMove s i t) (hi : i ∉ [.dinit, .dstep, .decrypt]) :
    t.key = s.key ∧ t.pos = s.pos := by
  cases h with
  | dinit | dstep | decrypt => simp at hi
  | _ => exact ⟨rfl, rfl⟩

/-! ### A command's word -/

/-- A word with bits 31:8 all 0 is its OP field. -/
theorem toNat_eq_opField {w : Word} (h : rsvField w = 0) : w.toNat = (opField w).toNat := by
  have hr := congrArg BitVec.toNat h
  simp [rsvField, opField] at hr ⊢
  omega

/-- The decoder reads a command from no OP but its own. -/
theorem decodeOp_ok {op : BitVec 8} {i : Instr} (h : decodeOp op = .ok i) : op.toNat = (encode i).toNat := by
  unfold decodeOp at h
  split at h <;> cases h <;> assumption

/-- The decoder reads a command from no word but its own (R91, R92). -/
theorem decodeWord_ok {w : Word} {i : Instr} (h : decodeWord w = .ok i) : w = encode i := by
  unfold decodeWord at h
  split at h
  · next hr => exact BitVec.eq_of_toNat_eq ((toNat_eq_opField hr).trans (decodeOp_ok h))
  · cases h

end Sys2Proof.Machine
end

section
/-! Each update of the state keeps the invariant, and so does every step. -/
namespace Sys2Proof.Machine

variable {s t : State}

/-! ### The invariant, one rule per update of STATUS -/

/-- A STATUS write keeps the invariant when it keeps the reserved bits and the valid flags, and shows an error code
of R240 that is recorded in ESTICKY. -/
theorem inv_setStatus (h : s.Inv) {w : BitVec 32} (hres : Status.reserved w = Status.reserved s.status)
    (htg : Status.tgValid w = Status.tgValid s.status) (hag : Status.agValid w = Status.agValid s.status)
    (hcode : (Status.err w).toNat ≤ 5) (hsticky : Status.err w ≠ 0 → Status.esticky w = true) :
    (s.setStatus w).Inv :=
  { h with
    statusReserved := hres.trans h.statusReserved
    errCode := hcode
    errSticky := hsticky
    tgValidIff := htg ▸ h.tgValidIff
    agValidIff := hag ▸ h.agValidIff }

theorem errCode_le_five (e : ErrCode) : e.code.toNat ≤ 5 := by cases e <;> decide

theorem inv_complete (h : s.Inv) : (complete s).Inv :=
  inv_setStatus h (by simp) (by simp) (by simp) (by simp [ErrCode.code]) (by simp [ErrCode.code])

theorem inv_raise (e : ErrCode) (h : s.Inv) : (raise e s).Inv :=
  inv_setStatus h (by simp) (by simp) (by simp) (by simpa using errCode_le_five e) (by simp)

theorem inv_setMiss (b : Bool) (h : s.Inv) : (setMiss b s).Inv :=
  inv_setStatus h (by simp) (by simp) (by simp) (by simpa using h.errCode) (by simpa using h.errSticky)

/-! ### The invariant, one rule per update that it does not read -/

theorem inv_setCipher (k : Byte) (p : BitVec 32) (h : s.Inv) : (s.setCipher k p).Inv := { h with }
theorem inv_setSdata (v : Byte) (h : s.Inv) : (s.setSdata v).Inv := { h with }
theorem inv_setSample (c : Colour) (h : s.Inv) : (s.setSample c).Inv := { h with }
theorem inv_setInReset (b : Bool) (h : s.Inv) : (s.setInReset b).Inv := { h with }
theorem inv_answer (v : Reply) (h : s.Inv) : (s.answer v).Inv := { h with }
theorem inv_nextOp (rest : List HostOp) (h : s.Inv) : (s.nextOp rest).Inv := { h with }

/-! ### The invariant, one rule per memory -/

/-- A block written inside BUF keeps the invariant. -/
theorem inv_setBuf_writeBlock (h : s.Inv) {base : Nat} {vs : List Byte} (hb : base + vs.length ≤ Config.bufCap) :
    (s.setBuf (Memory.writeBlock s.buf base vs)).Inv :=
  { h with
    bufForm := ⟨Memory.wf_writeBlock h.bufForm.1 base vs, Memory.below_writeBlock h.bufForm.2 base vs hb⟩ }

/-- The bytes that DECRYPT or DEOBF leaves in BUF keep the invariant: they are LEN many. -/
theorem inv_setBuf_bytes (h : s.Inv) (hf : bufferFits s) {vs : List Byte} (hl : vs.length = s.len.toNat) :
    (s.setBuf (Memory.writeBlock s.buf 0 vs)).Inv :=
  inv_setBuf_writeBlock h (by simpa [hl, Config.bufCap, bufferFits] using hf)

theorem inv_texLoad (h : s.Inv) (tile : Byte) (a : TileAsset) :
    (s.setTex (Memory.write s.tex tile.toNat a)).Inv :=
  { h with texForm := ⟨Memory.wf_write h.texForm.1 _ a, Memory.below_write h.texForm.2 a tile.isLt⟩ }

theorem inv_texUnload (h : s.Inv) (tile : Byte) : (s.setTex (Memory.erase s.tex tile.toNat)).Inv :=
  { h with texForm := ⟨Memory.wf_erase h.texForm.1 _, Memory.below_erase h.texForm.2 _⟩ }

theorem ne_zero_of_decoderConfigured (hc : decoderConfigured s) : s.n ≠ 0 := by
  intro hn
  have : 1 ≤ s.n.toNat := hc.1
  simp [hn] at this

/-- A legal grid dimension's cells fit the grid memory. -/
theorem cells_le_of_decoderConfigured (hc : decoderConfigured s) :
    s.n.toNat * s.n.toNat ≤ Config.nMax * Config.nMax :=
  Nat.mul_le_mul hc.2.1 hc.2.1

/-- A decode of N² cells writes all of them. -/
theorem holdsGrid_writeBlock {α : Type} (m : Memory α) {n : Nat} {vs : List α} (hl : vs.length = n * n) :
    Memory.holdsGrid n (Memory.writeBlock m 0 vs) := by
  intro i hi
  have hi' : i < vs.length := hl ▸ hi
  simp [Memory.lookup_writeBlock, hi']

theorem inv_storeTerrain (h : s.Inv) (hc : decoderConfigured s) {cells : List TerrainCell}
    (hl : cells.length = s.n.toNat * s.n.toNat) : (storeTerrain s cells).Inv :=
  { h with
    tgForm := ⟨Memory.wf_writeBlock h.tgForm.1 0 cells,
      Memory.below_writeBlock h.tgForm.2 0 cells (by simpa [hl] using cells_le_of_decoderConfigured hc)⟩
    statusReserved := (Status.reserved_setTgValid _).trans h.statusReserved
    errCode := (Status.err_setTgValid s.status).symm ▸ h.errCode
    errSticky := fun he => (Status.esticky_setTgValid _).trans (h.errSticky (Status.err_setTgValid s.status ▸ he))
    tgValidIff := iff_of_true (Status.tgValid_setTgValid _) (ne_zero_of_decoderConfigured hc)
    agValidIff := (Status.agValid_setTgValid s.status).symm ▸ h.agValidIff
    tgGrid := ⟨hc.2.1, holdsGrid_writeBlock s.tg hl⟩ }

theorem inv_storeAttributes (h : s.Inv) (hc : decoderConfigured s) {attrs : List Byte}
    (hl : attrs.length = s.n.toNat * s.n.toNat) : (storeAttributes s attrs).Inv :=
  { h with
    agForm := ⟨Memory.wf_writeBlock h.agForm.1 0 attrs,
      Memory.below_writeBlock h.agForm.2 0 attrs (by simpa [hl] using cells_le_of_decoderConfigured hc)⟩
    statusReserved := (Status.reserved_setAgValid _).trans h.statusReserved
    errCode := (Status.err_setAgValid s.status).symm ▸ h.errCode
    errSticky := fun he => (Status.esticky_setAgValid _).trans (h.errSticky (Status.err_setAgValid s.status ▸ he))
    tgValidIff := (Status.tgValid_setAgValid s.status).symm ▸ h.tgValidIff
    agValidIff := iff_of_true (Status.agValid_setAgValid _) (ne_zero_of_decoderConfigured hc)
    agGrid := ⟨hc.2.1, holdsGrid_writeBlock s.ag hl⟩ }

/-! ### The frame -/

/-- Every pixel of a legal frame has an address inside FB. -/
theorem below_rowsFrom {α : Type} {side : Nat} (hs : side ≤ Config.fbSideMax) (f : Nat → Nat → α) :
    Memory.below (Config.fbSideMax * Config.fbSideMax) (rowsFrom side f (List.range side)) := by
  intro p hp
  obtain ⟨row, hr, hp⟩ := List.mem_flatMap.1 hp
  obtain ⟨col, hcol, rfl⟩ := List.mem_map.1 hp
  simp only [List.mem_range, fbAddr, Config.fbSideMax] at *
  omega

/-- A frame lists exactly its own pixels. -/
theorem frameListed_rowsFrom {side : Nat} (hs : side ≤ Config.fbSideMax) (f : Nat → Nat → Colour) :
    frameListed side (rowsFrom side f (List.range side)) := by
  intro row col _ hcol
  rw [lookup_frame hs f row col hcol]
  by_cases hin : row < side ∧ col < side <;> simp [hin]

/-- A new frame of legal side keeps the invariant. -/
theorem inv_setFrame (h : s.Inv) {side : Nat} (hs : side ≤ Config.fbSideMax) (f : Nat → Nat → Colour) :
    (s.setFrame (rowsFrom side f (List.range side)) (BitVec.ofNat 32 side)).Inv := by
  have hside : (BitVec.ofNat 32 side).toNat = side := by
    simp only [BitVec.toNat_ofNat, Config.fbSideMax] at *; omega
  exact { h with
    fbForm := ⟨wf_rowsFrom hs f _ List.pairwise_lt_range, below_rowsFrom hs f⟩
    fbFrame := ⟨hside.symm ▸ hs, hside.symm ▸ frameListed_rowsFrom hs f⟩ }

theorem inv_renderFrame (mode : Config.BlendRound) (h : s.Inv) (hc : renderConfigured s) :
    (renderFrame mode s).Inv := by
  obtain ⟨_, _, _, _, hside⟩ := hc
  refine inv_setMiss _ ?_
  rw [frameEntries_map mode s Prod.fst]
  exact inv_setFrame h hside _

/-! ### Register writes and reset -/

/-- The host's write of CTRL leaves bits 31:1 at 0 (R29). -/
theorem ctrl_and_one_reserved (v : BitVec 32) : (v &&& 1).extractLsb' 1 31 = 0 := by
  apply BitVec.eq_of_getLsbD_eq
  intro i hi
  simp [BitVec.getLsbD_one]

theorem inv_storeReg (name : Reg) (v : Word) (h : s.Inv) : (storeReg s name v).Inv := by
  cases name with
  | ctrl => exact { h with ctrlReserved := ctrl_and_one_reserved v }
  | _ => exact { h with }

/-- The machine right after reset meets the invariant. -/
theorem inv_reset : State.reset.Inv where
  bufForm := ⟨.nil, by simp [Memory.below, State.reset]⟩
  tgForm := ⟨.nil, by simp [Memory.below, State.reset]⟩
  agForm := ⟨.nil, by simp [Memory.below, State.reset]⟩
  fbForm := ⟨.nil, by simp [Memory.below, State.reset]⟩
  texForm := ⟨.nil, by simp [Memory.below, State.reset]⟩
  statusReserved := by decide
  ctrlReserved := by decide
  errCode := by decide
  errSticky := by decide
  tgValidIff := by decide
  agValidIff := by decide
  tgGrid := ⟨by decide, by simp [Memory.holdsGrid, State.reset]⟩
  agGrid := ⟨by decide, by simp [Memory.holdsGrid, State.reset]⟩
  fbFrame := ⟨by decide, by simp [frameListed, State.reset]⟩

/-- A release of reset keeps the invariant: TEX is the environment's, and the rest is the reset state's. -/
theorem inv_releaseReset (h : s.Inv) : (releaseReset s).Inv := by
  unfold releaseReset
  split
  · exact { inv_reset with texForm := h.texForm }
  · exact h

/-! ### Every move keeps the invariant -/

theorem inv_commandMove {i : Instr} (h : s.Inv) (hm : CommandMove s i t) : t.Inv := by
  cases hm with
  | raised => exact inv_raise _ h
  | raisedNoMiss => exact inv_raise _ (inv_setMiss _ h)
  | nop => exact inv_complete h
  | dinit => exact inv_complete (inv_setCipher _ _ h)
  | dstep => exact inv_complete (inv_setCipher _ _ (inv_setSdata _ h))
  | decrypt out ho hf => exact inv_complete (inv_setCipher _ _ (inv_setBuf_bytes h hf (by simp [ho])))
  | deobf hf => exact inv_complete (inv_setBuf_bytes h hf (by simp))
  | decmap hc => exact inv_complete (inv_storeTerrain h hc (by simp))
  | decatt _ _ hc => exact inv_complete (inv_storeAttributes h hc (by simp))
  | sample => exact inv_complete (inv_setMiss _ (inv_setSample _ (inv_setMiss _ h)))
  | render hc => exact inv_complete (inv_renderFrame _ (inv_setMiss _ h) hc)

theorem inv_hostMove {op : HostOp} (h : s.Inv) (hm : HostMove s op t) : t.Inv := by
  cases hm with
  | held | noRegister => exact h
  | command _ _ _ _ he => exact inv_commandMove h (exec_move he)
  | illegal => exact inv_raise _ h
  | store => exact inv_storeReg _ _ h
  | read => exact inv_answer _ h
  | bufWrite a v ha => exact inv_setBuf_writeBlock h ha
  | load => exact inv_texLoad h _ _
  | unload => exact inv_texUnload h _
  | assert => exact inv_setInReset _ h
  | release => exact inv_releaseReset h

/-- Settles O3: a step is idle or one move of an operation, and every move keeps the invariant. -/
theorem stepKeepsInvariant : Obligations.StepKeepsInvariant := by
  intro s t h hstep
  rcases step_move hstep with ⟨_, rfl⟩ | ⟨op, rest, _, hm⟩
  · exact h
  · exact inv_hostMove (inv_nextOp rest h) hm

end Sys2Proof.Machine
end

section
/-! The registers under a host write: what each reads as afterwards. -/
namespace Sys2Proof.Machine

theorem storeReg_readOnly {name : Reg} (h : readOnly name = true) (s : State) (v : Word) : storeReg s name v = s := by
  cases name with
  | status | key | pos | sRgb | fbSide | tgN | agN => rfl
  | _ => cases h

/-- A host write of an RW register other than CTRL stores `trunc_w(value)` (R49). -/
theorem readReg_storeReg_same {name : Reg} (hro : readOnly name = false) (hcmd : name ≠ .cmd) (hctrl : name ≠ .ctrl)
    (s : State) (v : Word) : (readReg (storeReg s name v) name).toNat = v.toNat % 2 ^ regWidth name := by
  cases name with
  | cmd => exact absurd rfl hcmd
  | ctrl => exact absurd rfl hctrl
  | status | key | pos | sRgb | fbSide | tgN | agN => cases hro
  | len | timeMs => exact (Nat.mod_eq_of_lt v.isLt).symm
  | wmask k => simp [readReg, storeReg, regWidth, Nat.mod_eq_of_lt v.isLt]
  | _ => simp only [readReg, storeReg, regWidth, BitVec.toNat_setWidth]; omega

theorem readReg_storeReg_ctrl (s : State) (v : Word) : (readReg (storeReg s .ctrl v) .ctrl).toNat = v.toNat % 2 := by
  simp [readReg, storeReg, Nat.and_one_is_mod]

theorem wmask_storeReg (s : State) (k j : Fin 8) (v : Word) :
    (storeReg s (.wmask k) v).wmask[j] = if j = k then v else s.wmask[j] := by
  simp [storeReg, Vector.getElem_set, Fin.ext_iff, eq_comm]

/-- A host write of one register leaves every other register's value. -/
theorem readReg_storeReg_other {name other : Reg} (h : other ≠ name) (s : State) (v : Word) :
    readReg (storeReg s name v) other = readReg s other := by
  cases name with
  | wmask k =>
    cases other with
    | wmask j => exact (wmask_storeReg s k j v).trans (if_neg fun hj => h (congrArg Reg.wmask hj))
    | _ => rfl
  | _ => cases other <;> simp [readReg, storeReg] at h ⊢

/-- A host write of a register touches no memory and nothing outside SXD. -/
theorem storeReg_frame (s : State) (name : Reg) (v : Word) :
    (storeReg s name v).buf = s.buf ∧ (storeReg s name v).tg = s.tg ∧ (storeReg s name v).ag = s.ag ∧
      (storeReg s name v).fb = s.fb ∧ SameOutside s (storeReg s name v) := by
  cases name <;> exact ⟨rfl, rfl, rfl, rfl, rfl, rfl, rfl, rfl, rfl⟩

@[simp] theorem readReg_nextOp (s : State) (rest : List HostOp) (name : Reg) :
    readReg (s.nextOp rest) name = readReg s name := by
  cases name <;> rfl

/-- A host write of a register other than CMD is the register's store. -/
theorem hostWrite_store {reg : Byte} {name : Reg} (hn : regOfNumber reg = some name) (hc : name ≠ .cmd) (v : Word)
    (s : State) : hostWrite reg v s = .next (storeReg s name v) := by
  cases name with
  | cmd => exact absurd rfl hc
  | _ => simp only [hostWrite, hn]

/-- `IsWater(t)` read off the mask register that holds tile t's bit (R39). -/
theorem isWater_eq (s : State) {tile : Byte} {k : Fin 8} (h : tile.toNat / 32 = k.val) :
    isWater s tile = (s.wmask[k]).getLsbD (tile.toNat % 32) := by
  simp [isWater, h]

end Sys2Proof.Machine
end

section
/-! What only commands write: a step that runs no command leaves the cipher's state, the grids and the frame. -/
namespace Sys2Proof.Machine

variable {s t : State}

/-- What no host write reaches and only commands and a reset change: the cipher's state, the grids and the frame. -/
structure SameCommandResults (s t : State) : Prop where
  key : t.key = s.key
  pos : t.pos = s.pos
  tg : t.tg = s.tg
  tgN : t.tgN = s.tgN
  ag : t.ag = s.ag
  agN : t.agN = s.agN
  fb : t.fb = s.fb
  fbSide : t.fbSide = s.fbSide

theorem storeReg_sameCommandResults (s : State) (name : Reg) (v : Word) :
    SameCommandResults s (storeReg s name v) := by
  cases name <;> exact ⟨rfl, rfl, rfl, rfl, rfl, rfl, rfl, rfl⟩

/-- An operation but a release of reset runs the command whose word it writes to CMD, or leaves what only commands
write as it was. -/
theorem hostMove_command_or_same {op : HostOp} (hm : HostMove s op t) (hr : op ≠ .releaseReset) :
    (∃ i, op = .wr 0x00 (encode i) ∧ CommandMove s i t) ∨ SameCommandResults s t := by
  cases hm with
  | command w i _ hd he => exact .inl ⟨i, by rw [decodeWord_ok hd], exec_move he⟩
  | store => exact .inr (storeReg_sameCommandResults s _ _)
  | release => exact absurd rfl hr
  | _ => exact .inr ⟨rfl, rfl, rfl, rfl, rfl, rfl, rfl, rfl⟩

/-- The same of a step. -/
theorem step_command_or_same (h : step s = .next t) (hr : s.ops.head? ≠ some .releaseReset) :
    (∃ i rest, s.ops.head? = some (.wr 0x00 (encode i)) ∧ CommandMove (s.nextOp rest) i t) ∨
      SameCommandResults s t := by
  rcases step_move h with ⟨_, rfl⟩ | ⟨op, rest, ho, hm⟩
  · exact .inr ⟨rfl, rfl, rfl, rfl, rfl, rfl, rfl, rfl⟩
  · rw [ho, List.head?_cons] at hr ⊢
    rcases hostMove_command_or_same hm (fun hop => hr (congrArg some hop)) with ⟨i, rfl, hc⟩ | hs
    · exact .inl ⟨i, rest, rfl, hc⟩
    · exact .inr { hs with }

/-- Settles O16: a step runs one command or writes none of the grids and the frame, and each command writes only its
own. -/
theorem onlyOwnCommandWritesGridsAndFrame : Obligations.OnlyOwnCommandWritesGridsAndFrame := by
  intro s t h hr
  rcases step_command_or_same h hr with ⟨i, rest, ho, hc⟩ | hs
  · rw [ho]
    exact ⟨fun hne => hc.tg_eq (by rintro rfl; exact hne rfl), fun hne => hc.ag_eq (by rintro rfl; exact hne rfl),
      fun hne => hc.fb_eq (by rintro rfl; exact hne rfl)⟩
  · exact ⟨fun _ => ⟨hs.tg, hs.tgN⟩, fun _ => ⟨hs.ag, hs.agN⟩, fun _ => ⟨hs.fb, hs.fbSide⟩⟩

/-- Settles O17: a step runs one command or leaves KEY and POS, and every command but the three named leaves them. -/
theorem onlyCipherCommandsWriteKey : Obligations.OnlyCipherCommandsWriteKey := by
  intro s t h hr hne
  rcases step_command_or_same h hr with ⟨i, rest, ho, hc⟩ | hs
  · rw [ho] at hne
    refine hc.key_pos_eq (s := s.nextOp rest) fun hi => hne ?_
    exact List.mem_map_of_mem (f := fun i => some (HostOp.wr 0x00 (encode i))) hi
  · exact ⟨hs.key, hs.pos⟩

end Sys2Proof.Machine
end

section
/-! The register map and the operations of the host and the environment. -/
namespace Sys2Proof.Machine

/-- Settles O49, by what the register number names: no register, an RO register, CTRL, or another RW register. -/
theorem hostRegisterWrite : Obligations.HostRegisterWrite := by
  intro s reg v rest hr ho hreg
  have hstep : step s = hostWrite reg v (s.nextOp rest) :=
    (step_cons ho).trans (portOp_running (s := s.nextOp rest) hr _)
  cases hn : regOfNumber reg with
  | none => exact ⟨s.nextOp rest, by rw [hstep, hostWrite, hn], rfl⟩
  | some name =>
    have hcmd : name ≠ .cmd := by rintro rfl; exact hreg (regOfNumber_cmd hn)
    obtain ⟨hbuf, htg, hag, hfb, htex, hir, hops, hrep, -⟩ := storeReg_frame (s.nextOp rest) name v
    refine ⟨storeReg (s.nextOp rest) name v, hstep.trans (hostWrite_store hn hcmd v _),
      fun hro => storeReg_readOnly hro _ v, ?_, fun hro hctrl => readReg_storeReg_same hro hcmd hctrl _ v,
      fun other hother => ?_, hbuf, htg, hag, hfb, htex, hrep, hops, hir.trans hr⟩
    · rintro - rfl
      exact readReg_storeReg_ctrl _ v
    · rw [readReg_storeReg_other (by simpa using hother), readReg_nextOp]

theorem texAsset_load (s : State) (tile : Byte) (a : TileAsset) (other : Byte) :
    texAsset (s.setTex (Memory.write s.tex tile.toNat a)) other =
      if other = tile then some a else texAsset s other := by
  simp [texAsset, Memory.lookup_write, BitVec.toNat_inj]

theorem texAsset_unload (s : State) (tile other : Byte) :
    texAsset (s.setTex (Memory.erase s.tex tile.toNat)) other = if other = tile then none else texAsset s other := by
  simp [texAsset, Memory.lookup_erase, BitVec.toNat_inj]

/-- Settles O54, by what a write and an erasure of TEX leave at each tile. -/
theorem textureLoads : Obligations.TextureLoads := by
  intro s tile asset rest
  refine ⟨fun ho => ⟨_, step_cons ho, ?_, fun other hne => ?_, rfl⟩,
    fun ho => ⟨_, step_cons ho, ?_, fun other hne => ?_, rfl⟩⟩
  · exact (texAsset_load (s.nextOp rest) tile asset tile).trans (if_pos rfl)
  · exact (texAsset_load (s.nextOp rest) tile asset other).trans (if_neg hne)
  · exact (texAsset_unload (s.nextOp rest) tile tile).trans (if_pos rfl)
  · exact (texAsset_unload (s.nextOp rest) tile other).trans (if_neg hne)

/-- Settles O50: above 0x1F every listed number is excluded; the 32 numbers themselves are finitely many. -/
theorem registerNumbers : Obligations.RegisterNumbers := by
  refine ⟨fun reg h => ?_, by decide, by decide⟩
  unfold regOfNumber
  split
  case h_33 => rfl
  all_goals omega

/-- Settles O55, by the mask register that holds the tile's bit: the one written or another. -/
theorem waterMaskBits : Obligations.WaterMaskBits := by
  intro s k v tile
  refine ⟨fun h => isWater_eq s h, ?_⟩
  obtain ⟨j, hj⟩ : ∃ j : Fin 8, tile.toNat / 32 = j.val := ⟨⟨tile.toNat / 32, by omega⟩, rfl⟩
  rw [isWater_eq _ hj, isWater_eq _ hj, wmask_storeReg, hj]
  by_cases hjk : j = k
  · simp [hjk]
  · simp [hjk, Fin.val_ne_of_ne hjk]

end Sys2Proof.Machine
end

section
/-! Which operations are answered and which are refused, and what the memory ports do (R60, R61). -/
namespace Sys2Proof.Machine

variable {s : State}

/-! ### Every command and every host write answers -/

theorem ite_answers {c : Prop} [Decidable c] {x y : Host.Outcome State Fault Refusal} (hx : ∃ t, x = .next t)
    (hy : ∃ t, y = .next t) : ∃ t, (if c then x else y) = .next t := by
  split
  · exact hx
  · exact hy

/-- No command faults or is refused: each branch of its checks ends in a next state. -/
theorem exec_answers (i : Instr) (s : State) : ∃ t, exec i s = .next t := by
  cases i with
  | nop | dinit | dstep => exact ⟨_, rfl⟩
  | decrypt | deobf | sample => exact ite_answers ⟨_, rfl⟩ ⟨_, rfl⟩
  | decmap => exact ite_answers ⟨_, rfl⟩ (ite_answers ⟨_, rfl⟩ ⟨_, rfl⟩)
  | decatt | render => exact ite_answers ⟨_, rfl⟩ (ite_answers ⟨_, rfl⟩ (ite_answers ⟨_, rfl⟩ ⟨_, rfl⟩))

theorem issueCommand_answers (w : Word) (s : State) : ∃ t, issueCommand w s = .next t := by
  cases hd : decodeWord w with
  | ok i => rw [issueCommand_ok hd]; exact exec_answers i s
  | error e => exact ⟨_, issueCommand_error hd s⟩

theorem hostWrite_answers (reg : Byte) (v : Word) (s : State) : ∃ t, hostWrite reg v s = .next t := by
  cases hn : regOfNumber reg with
  | none => exact ⟨s, by rw [hostWrite, hn]⟩
  | some name =>
    by_cases hc : name = .cmd
    · obtain rfl := regOfNumber_cmd (hc ▸ hn)
      exact issueCommand_answers v s
    · exact ⟨_, hostWrite_store hn hc v s⟩

/-! ### A port operation with a range check -/

theorem portOp_answers {act : Host.Outcome State Fault Refusal} (h : ∃ t, act = .next t) :
    ∃ t, portOp s act = .next t :=
  ite_answers ⟨_, rfl⟩ h

theorem portOp_outOfRange {b : Bool} (hr : s.inReset = false) (hb : b = false) (t : State) (reason : Refusal) :
    portOp s (if b then .next t else .refused reason) = .refused reason :=
  (portOp_running hr _).trans (if_neg (by simp [hb]))

theorem portOp_checked_answers {b : Bool} (h : s.inReset = true ∨ b = true) (t : State) (reason : Refusal) :
    ∃ u, portOp s (if b then .next t else .refused reason) = .next u := by
  rcases h with hr | hb
  · exact ⟨s, portOp_held hr _⟩
  · exact portOp_answers ⟨t, if_pos hb⟩

/-! ### Answered or refused -/

theorem hostStep_answers {op : HostOp} (h : s.inReset = true ∨ op.wellFormed = true) :
    ∃ t, hostStep op s = .next t := by
  cases op with
  | wr reg v => exact portOp_answers (hostWrite_answers reg v s)
  | rd => exact portOp_answers ⟨_, rfl⟩
  | bufW | bufR | tgR | agR | fbR => exact portOp_checked_answers h _ _
  | texLoad | texUnload | assertReset | releaseReset => exact ⟨_, rfl⟩

theorem hostStep_refuses {op : HostOp} (hr : s.inReset = false) (hw : op.wellFormed = false) :
    ∃ reason, hostStep op s = .refused reason := by
  cases op with
  | bufW | bufR | tgR | agR | fbR => exact ⟨_, portOp_outOfRange hr hw _ _⟩
  | wr | rd | texLoad | texUnload | assertReset | releaseReset => cases hw

theorem hostStep_refused_iff {op : HostOp} :
    (∃ reason, hostStep op s = .refused reason) ↔ s.inReset = false ∧ op.wellFormed = false := by
  refine ⟨fun ⟨reason, hrefused⟩ => ?_, fun ⟨hr, hw⟩ => hostStep_refuses hr hw⟩
  by_contra h
  obtain ⟨t, ht⟩ := hostStep_answers (s := s) (op := op) (by simpa [or_iff_not_imp_left] using h)
  cases ht.symm.trans hrefused

/-- A step is refused exactly when its first pending operation is an ill-formed one outside reset. -/
theorem step_refused_iff (s : State) :
    (∃ reason, step s = .refused reason) ↔
      s.inReset = false ∧ ∃ op rest, s.ops = op :: rest ∧ op.wellFormed = false := by
  cases ho : s.ops with
  | nil => simp [step, ho]
  | cons op rest => simp [step_cons ho, hostStep_refused_iff]

/-- An operation is ill-formed exactly when it is a port operation outside its space (R60). -/
theorem wellFormed_eq_false_iff (op : HostOp) :
    op.wellFormed = false ↔
      (∃ a v, op = .bufW a v ∧ 262144 ≤ a) ∨ (∃ a, op = .bufR a ∧ 262144 ≤ a) ∨
      (∃ i, op = .tgR i ∧ 65536 ≤ i) ∨ (∃ i, op = .agR i ∧ 65536 ≤ i) ∨
      (∃ row col, op = .fbR row col ∧ (16384 ≤ row ∨ 16384 ≤ col)) := by
  cases op with
  | bufW | bufR => simp [HostOp.wellFormed, Bool.eq_false_iff, bufInRange_iff]
  | tgR | agR => simp [HostOp.wellFormed, Bool.eq_false_iff, cellInRange_iff]
  | fbR => simp [HostOp.wellFormed, Bool.eq_false_iff, pixelInRange_iff, imp_iff_not_or]
  | wr | rd | texLoad | texUnload | assertReset | releaseReset => simp [HostOp.wellFormed]

/-- Settles O53: a step is refused exactly for an ill-formed operation outside reset, and the ill-formed ones are
those the statement lists; `Fault` has no constructor. -/
theorem refusedExactlyOutOfRange : Obligations.RefusedExactlyOutOfRange := by
  intro s
  refine ⟨(nomatch ·), ?_⟩
  simp only [step_refused_iff, wellFormed_eq_false_iff]

/-! ### What the memory ports do -/

theorem bufRead_write (s : State) (a : Nat) (v : Byte) (b : Nat) :
    bufRead (s.setBuf (Memory.write s.buf a v)) b = if b = a then v else bufRead s b := by
  simp only [bufRead, setBuf_buf, setBuf_draws, Memory.lookup_write]
  split <;> rfl

/-- Outside reset, a port operation whose range check passes does what it does in range. -/
theorem step_port_inRange {op : HostOp} {rest : List HostOp} {b : Bool} {t : State} {reason : Refusal}
    (hr : s.inReset = false) (ho : s.ops = op :: rest)
    (hop : hostStep op (s.nextOp rest) = portOp (s.nextOp rest) (if b then .next t else .refused reason))
    (hb : b = true) : step s = .next t :=
  (step_cons ho).trans (hop.trans ((portOp_running (s := s.nextOp rest) hr _).trans (if_pos hb)))

/-- Settles O52: each port operation passes its range check, and a written byte of BUF reads back while the others
keep theirs. -/
theorem memoryPorts : Obligations.MemoryPorts := by
  intro s rest hr
  refine ⟨fun a v ha ho => ⟨_, step_port_inRange hr ho rfl (bufInRange_iff.2 ha), ?_, fun b hb => ?_, rfl⟩,
    fun a ha ho => step_port_inRange hr ho rfl (bufInRange_iff.2 ha),
    fun i hi ho => step_port_inRange hr ho rfl (cellInRange_iff.2 hi),
    fun i hi ho => step_port_inRange hr ho rfl (cellInRange_iff.2 hi),
    fun row col hrow hcol ho => step_port_inRange hr ho rfl (pixelInRange_iff.2 ⟨hrow, hcol⟩)⟩
  · exact (bufRead_write (s.nextOp rest) a v a).trans (if_pos rfl)
  · exact (bufRead_write (s.nextOp rest) a v b).trans (if_neg hb)

end Sys2Proof.Machine
end

section
/-! The encoding: the decoder and the encoder undo each other, every word is one command or illegal, and an illegal
word raises its error alone (R90 to R93). -/
namespace Sys2Proof.Machine

/-! ### The fields of a word as numbers -/

theorem toNat_opField (w : Word) : (opField w).toNat = w.toNat % 256 := by
  simp [opField]

theorem rsvField_eq_zero_iff {w : Word} : rsvField w = 0 ↔ w.toNat / 256 = 0 := by
  rw [← BitVec.toNat_inj]
  simp [rsvField, Nat.shiftRight_eq_div_pow]
  omega

/-! ### The decoder -/

/-- The decoder reads a command back from its own word. -/
theorem decodeWord_encode (i : Instr) : decodeWord (encode i) = .ok i := by
  cases i <;> rfl

theorem decodeWord_eq_ok_iff {w : Word} {i : Instr} : decodeWord w = .ok i ↔ encode i = w := by
  refine ⟨fun h => (decodeWord_ok h).symm, ?_⟩
  rintro rfl
  exact decodeWord_encode i

theorem decodeWord_reservedBits {w : Word} (h : w.toNat / 256 ≠ 0) : decodeWord w = .error .reservedBits :=
  if_neg (mt rsvField_eq_zero_iff.1 h)

theorem decodeOp_noSuchOpcode {op : BitVec 8} (h : 9 ≤ op.toNat) : decodeOp op = .error .noSuchOpcode := by
  unfold decodeOp
  split
  case h_10 => rfl
  all_goals omega

theorem decodeWord_noSuchOpcode {w : Word} (hr : w.toNat / 256 = 0) (ho : 9 ≤ w.toNat % 256) :
    decodeWord w = .error .noSuchOpcode :=
  (if_pos (rsvField_eq_zero_iff.2 hr)).trans (decodeOp_noSuchOpcode ((toNat_opField w).symm ▸ ho))

/-- A word with either kind of fault is rejected (R93). -/
theorem decodeWord_illegal {w : Word} (h : w.toNat / 256 ≠ 0 ∨ 9 ≤ w.toNat % 256) :
    ∃ e, decodeWord w = .error e := by
  by_cases hr : w.toNat / 256 = 0
  · exact ⟨_, decodeWord_noSuchOpcode hr (h.resolve_left (not_not.2 hr))⟩
  · exact ⟨_, decodeWord_reservedBits hr⟩

/-- The word of the command in row k of R92 is the number k. -/
theorem toNat_encode_row (k : Fin 9) :
    (encode ([Instr.nop, .dinit, .dstep, .decrypt, .deobf, .decmap, .decatt, .sample, .render].get k)).toNat = k := by
  revert k; decide

/-- Settles O7: no word but its own decodes to a command, and its own does. -/
theorem decodeAgreesWithEncode : Obligations.DecodeAgreesWithEncode := by
  refine fun w i => ⟨?_, decodeWord_eq_ok_iff⟩
  cases i <;> rfl

/-- Settles O5: each of the eight words is evaluated. -/
theorem specWordsDecode : Obligations.SpecWordsDecode :=
  ⟨rfl, rfl, rfl, rfl, rfl, rfl, rfl, rfl⟩

/-- Settles O6: the two rejections, and a legal word is the word of the command in its row of R92. -/
theorem decoderClassifiesEveryWord : Obligations.DecoderClassifiesEveryWord := by
  refine fun w => ⟨decodeWord_reservedBits, decodeWord_noSuchOpcode, fun hr hop => ?_⟩
  refine decodeWord_eq_ok_iff.2 (BitVec.eq_of_toNat_eq ((toNat_encode_row ⟨w.toNat % 256, hop⟩).trans ?_))
  change w.toNat % 256 = w.toNat
  omega

/-- Settles O9: the decoder rejects the word, so the step raises IllegalCommand, which changes STATUS alone. -/
theorem illegalWordSetsStatusOnly : Obligations.IllegalWordSetsStatusOnly := by
  intro s w rest hr ho hw
  obtain ⟨e, he⟩ := decodeWord_illegal hw
  obtain ⟨hstatus, hsame⟩ := raise_spec (s.nextOp rest) .illegalCommand
  exact ⟨_, (step_cmd hr ho).trans (issueCommand_error he _), hstatus, hsame⟩

end Sys2Proof.Machine
end

section
/-! The stream form of the cipher against the block form: STREAM answers the bytes of `decStream`, which DECRYPT leaves
in BUF (R98, R142 to R144). -/
namespace Sys2Proof.Machine

variable {s t u : State} {rest : List HostOp}

/-! ### Runs -/

theorem stepN_succ {k : Nat} (h : step s = .next t) : stepN (k + 1) s = stepN k t := by
  rw [stepN, h]

theorem stepN_add {j : Nat} (k : Nat) (h : stepN j s = .next t) : stepN (j + k) s = stepN k t := by
  induction j generalizing s with
  | zero => cases h; rw [Nat.zero_add]
  | succ j ih =>
    rw [stepN] at h
    split at h
    · next hs => rw [Nat.add_right_comm, stepN_succ hs, ih h]
    · cases h
    · cases h

/-! ### The operations of STREAM as steps -/

/-- Outside reset, issuing a command is its meaning (R97, R120). -/
theorem step_issue {i : Instr} (hr : s.inReset = false) (ho : s.ops = issue i :: rest) :
    step s = exec i (s.nextOp rest) :=
  (step_cmd hr ho).trans (issueCommand_ok (decodeWord_encode i) _)

/-- Outside reset, `WR SDATA` stores the byte (R121). -/
theorem step_wr_sdata {b : Byte} (hr : s.inReset = false) (ho : s.ops = .wr 0x0D (b.setWidth 32) :: rest) :
    step s = .next ((s.nextOp rest).setSdata b) := by
  have hstore : storeReg (s.nextOp rest) .sdata (b.setWidth 32) = (s.nextOp rest).setSdata b := by
    simp [storeReg, State.setSdata]
  rw [step_cons ho, ← hstore]
  exact (portOp_running (s := s.nextOp rest) hr _).trans (hostWrite_store rfl (by decide) _ _)

/-- What RD SDATA answers when SDATA holds `v`. -/
def sdataReply (v : Byte) : Reply := .word (v.setWidth 32)

/-- Outside reset, `RD SDATA` answers the byte (R122). -/
theorem step_rd_sdata (hr : s.inReset = false) (ho : s.ops = .rd 0x0D :: rest) :
    step s = .next ((s.nextOp rest).answer (sdataReply s.sdata)) :=
  (step_cons ho).trans (portOp_running (s := s.nextOp rest) hr _)

/-- DSTEP always completes (R143). -/
theorem exec_dstep (s : State) :
    exec .dstep s =
      .next (complete ((s.setSdata (decOut s.key s.pos s.sdata)).setCipher (decKey s.sdata) (s.pos + 1))) := rfl

/-! ### STREAM -/

/-- From `s`, SXD went on to `t` outside reset: it answered the bytes `out.1`, KEY and POS are `out.2`, and `rest` is
still pending. -/
structure Streamed (s : State) (out : List Byte × Byte × BitVec 32) (rest : List HostOp) (t : State) : Prop where
  running : t.inReset = false
  ops : t.ops = rest
  replies : t.replies = s.replies ++ out.1.map sdataReply
  cipher : (t.key, t.pos) = out.2

/-- One byte of STREAM is one step of `decStream` (R143). -/
theorem stepN_streamByte {b : Byte} (hr : s.inReset = false) (ho : s.ops = streamByte b ++ rest) :
    ∃ t, stepN 3 s = .next t ∧ Streamed s (decStream s.key s.pos [b]) rest t := by
  have hwrite := step_wr_sdata hr ho
  have hdstep := (step_issue (s := (s.nextOp _).setSdata b) (rest := .rd 0x0D :: rest) hr rfl).trans (exec_dstep _)
  have hread := (stepN_succ (k := 1) hdstep).trans (stepN_succ (k := 0) (step_rd_sdata (rest := rest) hr rfl))
  refine ⟨_, (stepN_succ hwrite).trans hread, ?_, ?_, ?_, ?_⟩
  · simpa [complete] using hr
  · simp [complete]
  · simp [complete, decStream]
  · simp [complete, decStream]

/-- The bytes of STREAM, after its DINIT, are `decStream` from the KEY and POS in force. -/
theorem stepN_streamBytes {bs : List Byte} (hr : s.inReset = false) (ho : s.ops = bs.flatMap streamByte ++ rest) :
    ∃ t, stepN (3 * bs.length) s = .next t ∧ Streamed s (decStream s.key s.pos bs) rest t := by
  induction bs generalizing s with
  | nil => exact ⟨s, rfl, hr, ho, (List.append_nil _).symm, rfl⟩
  | cons b bs ih =>
    obtain ⟨m, hm, hb⟩ := stepN_streamByte (b := b) (rest := bs.flatMap streamByte ++ rest) hr (by simpa using ho)
    obtain ⟨t, ht, hbs⟩ := ih hb.running hb.ops
    obtain ⟨hkey, hpos⟩ := Prod.mk.inj hb.cipher
    rw [hkey, hpos] at hbs
    refine ⟨t, ?_, hbs.running, hbs.ops, ?_, hbs.cipher⟩
    · rw [List.length_cons, Nat.mul_succ, Nat.add_comm, stepN_add _ hm, ht]
    · rw [hbs.replies, hb.replies, List.append_assoc]; rfl

/-- STREAM is `decStream` from the initial key and position 0 (R98, R142). -/
theorem stepN_stream {bs : List Byte} (hr : s.inReset = false) (ho : s.ops = stream bs ++ rest) :
    ∃ t, stepN (1 + 3 * bs.length) s = .next t ∧ Streamed s (decStream Config.keyInit 0 bs) rest t := by
  obtain ⟨t, ht, hstream⟩ := stepN_streamBytes (bs := bs) (rest := rest)
    (s := complete ((s.nextOp (bs.flatMap streamByte ++ rest)).setCipher Config.keyInit 0)) hr rfl
  refine ⟨t, ?_, { hstream with }⟩
  rw [Nat.add_comm]
  exact (stepN_succ (step_issue hr ho)).trans ht

/-! ### DECRYPT on a buffer that holds the bytes -/

theorem bufBytes_eq {bs : List Byte} (h : ∀ i, i < bs.length → bufRead u i = bs.getD i 0) :
    bufBytes u bs.length = bs := by
  refine List.ext_getElem (length_bufBytes u _) fun i _ hi => ?_
  rw [getElem_bufBytes, h i hi, List.getD_eq_getElem _ _ hi]

/-- After a block write from address 0, BUF begins with the block. -/
theorem bufBytes_writeBlock (u : State) (vs : List Byte) :
    bufBytes (u.setBuf (Memory.writeBlock u.buf 0 vs)) vs.length = vs := by
  refine bufBytes_eq fun i hi => ?_
  rw [bufRead_setBuf_writeBlock, dif_pos ⟨Nat.zero_le i, by omega⟩, List.getD_eq_getElem _ _ hi]
  rfl

/-- DECRYPT on a buffer that holds `bs` leaves the bytes, the KEY and the POS of `decStream` (R144). -/
theorem exec_decrypt_bufBytes {bs : List Byte} (hf : bufferFits u) (hl : u.len.toNat = bs.length)
    (hb : ∀ i, i < bs.length → bufRead u i = bs.getD i 0) :
    ∃ v, exec .decrypt u = .next v ∧ bufBytes v bs.length = (decStream Config.keyInit 0 bs).1 ∧
      (v.key, v.pos) = (decStream Config.keyInit 0 bs).2 := by
  refine ⟨_, exec_decrypt_runs hf, ?_, ?_⟩
  · have hw := bufBytes_writeBlock u (decStream Config.keyInit 0 bs).1
    rw [length_decStream] at hw
    rw [hl, bufBytes_eq hb]
    exact hw
  · rw [hl, bufBytes_eq hb]
    rfl

/-- Settles O23: STREAM and DECRYPT both compute `decStream` of the bytes. -/
theorem streamAgreesWithDecrypt : Obligations.StreamAgreesWithDecrypt := by
  intro s u bs rest hr ho hf hl hb
  obtain ⟨t, ht, hstream⟩ := stepN_stream hr ho
  obtain ⟨v, hv, hbytes, hcipher⟩ := exec_decrypt_bufBytes hf hl hb
  obtain ⟨hkey, hpos⟩ := Prod.mk.inj (hstream.cipher.trans hcipher.symm)
  refine ⟨t, v, ht, hv, hstream.ops, ?_, hkey, hpos⟩
  rw [hstream.replies, ← hbytes, bufBytes, List.map_map]
  rfl

end Sys2Proof.Machine
end

section
/-! The dispatch of a command: what every command leaves as it was, how the step comes to run one, and the host's read
of a register (R120, R122, R124). -/
namespace Sys2Proof.Machine

variable {s t : State}

/-! ### How every command ends -/

/-- ESTICKY, the reserved bits of STATUS and everything that is not SXD's own are the same: what no command changes
before it ends. -/
structure SameStickyAndOutside (s u : State) : Prop where
  esticky : Status.esticky u.status = Status.esticky s.status
  reserved : Status.reserved u.status = Status.reserved s.status
  outside : SameOutside s u

/-- Whatever a command computes first, it ends by `complete` or by raising an error, and until then it has left ESTICKY,
the reserved bits and everything outside SXD as they were. -/
theorem CommandMove.ends {i : Instr} (h : CommandMove s i t) :
    ∃ u, SameStickyAndOutside s u ∧ (t = complete u ∨ ∃ e, e ≠ ErrCode.none ∧ t = raise e u) := by
  have outside : SameOutside s s := ⟨rfl, rfl, rfl, rfl, rfl⟩
  cases h with
  | raised _ e he => exact ⟨s, ⟨rfl, rfl, outside⟩, .inr ⟨e, by rintro rfl; simp at he, rfl⟩⟩
  | raisedNoMiss _ e he =>
    exact ⟨setMiss false s, ⟨by simp, by simp, outside⟩, .inr ⟨e, by rintro rfl; simp at he, rfl⟩⟩
  | nop | dinit | dstep | decrypt | deobf =>
    refine ⟨_, ?_, .inl rfl⟩
    exact ⟨rfl, rfl, outside⟩
  | decmap =>
    exact ⟨storeTerrain s _, ⟨Status.esticky_setTgValid _, Status.reserved_setTgValid _, outside⟩, .inl rfl⟩
  | decatt =>
    exact ⟨storeAttributes s _, ⟨Status.esticky_setAgValid _, Status.reserved_setAgValid _, outside⟩, .inl rfl⟩
  | sample =>
    exact ⟨setMiss (sampleResult s).2 ((setMiss false s).setSample (sampleResult s).1),
      ⟨by simp, by simp, outside⟩, .inl rfl⟩
  | render =>
    exact ⟨renderFrame Config.blendRound (setMiss false s),
      ⟨by simp [renderFrame], by simp [renderFrame], outside⟩, .inl rfl⟩

theorem code_ne_zero {e : ErrCode} (h : e ≠ .none) : e.code ≠ 0 := by
  cases e with
  | none => exact absurd rfl h
  | _ => decide

/-- Settles O13, by how the command ends: ERR is 0 and ESTICKY is kept, or ERR is the error's code and ESTICKY is 1. -/
theorem commandFrameOfEveryCommand : Obligations.CommandFrameOfEveryCommand := by
  intro i s t h
  obtain ⟨u, hu, rfl | ⟨e, he, rfl⟩⟩ := (exec_move h).ends
  · exact ⟨by simp [hu.esticky, ErrCode.code], by simp [hu.reserved], hu.outside⟩
  · exact ⟨by simpa using .inr (code_ne_zero he), by simp [hu.reserved], hu.outside⟩

/-! ### Running a command -/

/-- Settles O8: the write reaches CMD, and its word decodes to the command. -/
theorem stepRunsDecodedCommand : Obligations.StepRunsDecodedCommand :=
  fun s _ rest _ hr ho hd => (step_cmd hr ho).trans (issueCommand_ok hd (s.nextOp rest))

/-- Settles O18: NOP is `complete` and nothing else. -/
theorem nopClearsErrOnly : Obligations.NopClearsErrOnly :=
  ⟨decodeWord_encode .nop, fun s => ⟨complete s, rfl, complete_spec s⟩⟩

/-! ### Reading a register -/

theorem hostRead_of_some {reg : Byte} {name : Reg} (hn : regOfNumber reg = some name) (s : State) :
    hostRead reg s = readReg s name := by
  rw [hostRead, hn]

theorem hostRead_of_none {reg : Byte} (hn : regOfNumber reg = none) (s : State) : hostRead reg s = 0 := by
  rw [hostRead, hn]

/-- Outside reset, `RD reg` answers what `hostRead` reads (R122). -/
theorem step_rd {reg : Byte} {rest : List HostOp} (hr : s.inReset = false) (ho : s.ops = .rd reg :: rest) :
    step s = .next ((s.nextOp rest).answer (.word (hostRead reg (s.nextOp rest)))) :=
  (step_cons ho).trans (portOp_running (s := s.nextOp rest) hr _)

/-- Settles O51, by what the register number names: a register, CMD, or none. -/
theorem hostRegisterRead : Obligations.HostRegisterRead := by
  intro s reg rest hr ho
  refine ⟨hostRead reg (s.nextOp rest), step_rd hr ho, fun name hn => ?_, ?_⟩
  · rw [hostRead_of_some hn, readReg_nextOp]
  · rintro (rfl | hreg)
    · exact hostRead_of_some (name := .cmd) rfl _
    · exact hostRead_of_none (registerNumbers.1 reg hreg) _

end Sys2Proof.Machine
end

section
/-! The cipher commands: DINIT and DSTEP, DECRYPT byte by byte against the closed form of R100, the forward cipher that
it undoes, and DEOBF (R140 to R151). -/
namespace Sys2Proof.Machine

variable {s t : State}

/-! ### DINIT and DSTEP -/

/-- Settles O19: DINIT completes after it sets KEY and POS. -/
theorem dinitStartsStream : Obligations.DinitStartsStream :=
  ⟨decodeWord_encode .dinit, fun s =>
    ⟨_, rfl, rfl, rfl, (complete_spec (s.setCipher Config.keyInit 0)).1, rfl⟩⟩

/-- `decOut` in integers: the subtraction wraps modulo 256 (R141, R150). -/
theorem toNat_decOut (k : Byte) (p : BitVec 32) (b : Byte) :
    (decOut k p b).toNat = ((b ^^^ keyTableAt p.toNat).toNat + 256 - k.toNat) % 256 := by
  rw [decOut, BitVec.toNat_sub]
  omega

/-- Settles O20: DSTEP completes after one `DecStep`, whose three results are read as integers. -/
theorem dstepDecryptsOneByte : Obligations.DstepDecryptsOneByte :=
  ⟨decodeWord_encode .dstep, fun s =>
    ⟨_, exec_dstep s, toNat_decOut s.key s.pos s.sdata, BitVec.toNat_add .., BitVec.toNat_add ..,
      (complete_spec ((s.setSdata _).setCipher _ _)).1, rfl⟩⟩

/-! ### What the updates of BUF and of the cipher's registers leave as it was -/

theorem readReg_setBuf (s : State) (m : Memory Byte) (name : Reg) : readReg (s.setBuf m) name = readReg s name := by
  cases name <;> rfl

theorem readReg_setCipher (s : State) (k : Byte) (p : BitVec 32) {name : Reg} (h : name ∉ [Reg.key, .pos]) :
    readReg (s.setCipher k p) name = readReg s name := by
  cases name with
  | key | pos => simp at h
  | _ => rfl

theorem bufRead_setBuf_fromZero (s : State) (vs : List Byte) (a : Nat) :
    bufRead (s.setBuf (Memory.writeBlock s.buf 0 vs)) a = if h : a < vs.length then vs[a] else bufRead s a := by
  simp [bufRead_setBuf_writeBlock]

/-! ### The closed form of DECRYPT (R100) -/

theorem streamKeyAt_keyInit (bs : List Byte) (i : Nat) :
    streamKeyAt Config.keyInit bs i = cipherKeyAt (fun j => bs.getD j 0) i := by
  cases i <;> rfl

theorem cipherKeyAt_congr {raw raw' : Nat → Byte} {i : Nat} (h : i ≠ 0 → raw (i - 1) = raw' (i - 1)) :
    cipherKeyAt raw i = cipherKeyAt raw' i := by
  cases i with
  | zero => rfl
  | succ i => exact congrArg decKey (h i.succ_ne_zero)

/-- A plain byte depends on its own raw byte and the one before (R145). -/
theorem plainByteAt_congr {raw raw' : Nat → Byte} {i : Nat} (hi : raw i = raw' i)
    (hprev : i ≠ 0 → raw (i - 1) = raw' (i - 1)) : plainByteAt raw i = plainByteAt raw' i := by
  rw [plainByteAt, plainByteAt, hi, cipherKeyAt_congr hprev]

theorem getD_bufBytes {n i : Nat} (h : i < n) : (bufBytes s n).getD i 0 = bufRead s i := by
  simp [bufBytes, h]

theorem streamKeyAt_bufBytes {n i : Nat} (h : i ≤ n) :
    streamKeyAt Config.keyInit (bufBytes s n) i = cipherKeyAt (bufRead s) i :=
  (streamKeyAt_keyInit _ i).trans (cipherKeyAt_congr fun hi => getD_bufBytes (by omega))

/-- Each byte that `decStream` makes of the buffer is the closed form's. -/
theorem getElem_decStream_bufBytes {n i : Nat} (h : i < (decStream Config.keyInit 0 (bufBytes s n)).1.length) :
    (decStream Config.keyInit 0 (bufBytes s n)).1[i] = plainByteAt (bufRead s) i := by
  have hi : i < n := by simpa using h
  rw [getElem_decStream, streamKeyAt_bufBytes hi.le, getD_bufBytes hi, zero_add, decOut, keyTableAt_ofNat]
  rfl

/-- What BUF holds after DECRYPT: the closed form below LEN, and what it held from LEN on (R144). -/
theorem bufRead_exec_decrypt (hf : bufferFits s) (h : exec .decrypt s = .next t) (a : Nat) :
    bufRead t a = if a < s.len.toNat then plainByteAt (bufRead s) a else bufRead s a := by
  obtain rfl := eq_of_exec_next (exec_decrypt_runs hf) h
  refine (bufRead_setBuf_fromZero s _ a).trans ?_
  simp only [getElem_decStream_bufBytes, length_decStream, length_bufBytes, dite_eq_ite]

/-- Settles O21, by the closed form of each byte and of the last key. -/
theorem decryptBytesAndFrame : Obligations.DecryptBytesAndFrame := by
  refine ⟨decodeWord_encode .decrypt, fun s hf => ?_, fun s hf => ⟨_, exec_decrypt_badConfig hf, raise_spec s _⟩⟩
  have hbuf := bufRead_exec_decrypt hf (exec_decrypt_runs hf)
  refine ⟨_, exec_decrypt_runs hf, fun i hi => (hbuf i).trans (if_pos hi),
    fun a ha => (hbuf a).trans (if_neg (by omega)), ?key, ?pos, (complete_spec ((s.setBuf _).setCipher _ _)).1, ?regs,
    fun _ => rfl, fun _ => rfl, fun _ _ => rfl, rfl, rfl, rfl, rfl, rfl⟩
  case key =>
    refine (key_decStream _ _ _).trans ?_
    rw [length_bufBytes, streamKeyAt_bufBytes le_rfl]
  case pos =>
    refine (pos_decStream _ _ _).trans ?_
    rw [length_bufBytes, zero_add, BitVec.ofNat_toNat, BitVec.setWidth_eq]
  case regs =>
    intro name hname
    obtain ⟨hcipher, hstatus⟩ : name ∉ [Reg.key, .pos] ∧ name ≠ .status := by simpa [and_assoc] using hname
    rw [complete, readReg_setStatus _ _ hstatus, readReg_setCipher _ _ _ hcipher, readReg_setBuf]

/-- Settles O24: the closed form reads the two bytes alone. -/
theorem decryptReadsNeighbourBytesOnly : Obligations.DecryptReadsNeighbourBytesOnly := by
  intro s s' t t' i hf hf' hi hi' hsame hprev ht ht'
  rw [bufRead_exec_decrypt hf ht, bufRead_exec_decrypt hf' ht', if_pos hi, if_pos hi']
  exact plainByteAt_congr hsame hprev

/-! ### The forward cipher (R151) -/

/-- Past the first byte, a stream's keys are those of the rest, which starts with the key that this byte leaves. -/
theorem streamKeyAt_cons_succ (k b : Byte) (bs : List Byte) (i : Nat) :
    streamKeyAt k (b :: bs) (i + 1) = streamKeyAt (decKey b) bs i := by
  cases i <;> rfl

theorem getD_encStream (k : Byte) (j : Nat) {ps : List Byte} {i : Nat} (h : i < ps.length) :
    (encStream k j ps).getD i 0 =
      (ps.getD i 0 + streamKeyAt k (encStream k j ps) i) ^^^ keyTableAt (j + i) := by
  induction ps generalizing k j i with
  | nil => cases h
  | cons p ps ih =>
    cases i with
    | zero => rfl
    | succ i =>
      have hj : j + (i + 1) = j + 1 + i := by omega
      rw [encStream, streamKeyAt_cons_succ, List.getD_cons_succ, List.getD_cons_succ, hj]
      exact ih _ _ (Nat.lt_of_succ_lt_succ h)

/-- One byte of the forward cipher is undone by `DecStep` with the same key and position. -/
theorem decOut_encrypted (k : Byte) (i : Nat) (p : Byte) :
    decOut k (BitVec.ofNat 32 i) ((p + k) ^^^ keyTableAt i) = p := by
  rw [decOut, keyTableAt_ofNat, xor_cancel_right, BitVec.add_sub_cancel]

/-- Both directions take the next key from the encrypted byte, so they keep in step. -/
theorem decStream_encStream (k : Byte) (i : Nat) (ps : List Byte) :
    (decStream k (BitVec.ofNat 32 i) (encStream k i ps)).1 = ps := by
  induction ps generalizing k i with
  | nil => rfl
  | cons p ps ih =>
    have hpos : BitVec.ofNat 32 i + 1 = BitVec.ofNat 32 (i + 1) := (BitVec.ofNat_add i 1).symm
    rw [encStream, decStream, decOut_encrypted, hpos]
    exact congrArg (p :: ·) (ih _ _)

theorem length_encrypt (ps : List Byte) : (encrypt ps).length = ps.length := length_encStream _ _ _

theorem decStream_encrypt (ps : List Byte) : (decStream Config.keyInit 0 (encrypt ps)).1 = ps :=
  decStream_encStream Config.keyInit 0 ps

/-- Settles O22: `decStream` undoes `encrypt`, and DECRYPT leaves what `decStream` makes of the buffer. -/
theorem decryptInvertsEncrypt : Obligations.DecryptInvertsEncrypt := by
  refine ⟨fun ps i hi => ?_, fun ps => ⟨length_encrypt ps, decStream_encrypt ps⟩, fun s ps hf hl hb => ?_⟩
  · rw [encrypt, getD_encStream _ _ hi, Nat.zero_add, streamKeyAt_keyInit]
  · rw [← length_encrypt ps] at hl hb
    obtain ⟨t, ht, hbytes, -⟩ := exec_decrypt_bufBytes hf hl hb
    rw [decStream_encrypt, length_encrypt] at hbytes
    exact ⟨t, ht, fun i hi => by rw [← getD_bufBytes hi, hbytes]⟩

/-! ### DEOBF (R146, R147) -/

/-- What BUF holds after DEOBF. -/
theorem bufRead_exec_deobf (hf : bufferFits s) (h : exec .deobf s = .next t) (a : Nat) :
    bufRead t a = if a < s.len.toNat then bufRead s a ^^^ xorTableAt a else bufRead s a := by
  obtain rfl := eq_of_exec_next (exec_deobf_runs hf) h
  refine (bufRead_setBuf_fromZero s _ a).trans ?_
  simp only [getElem_xor3, getElem_bufBytes, length_xor3, length_bufBytes, Nat.zero_add, dite_eq_ite]

/-- Settles O25, by what DEOBF leaves at each address. -/
theorem deobfXorsWithTable : Obligations.DeobfXorsWithTable := by
  refine ⟨decodeWord_encode .deobf, fun s hf => ?_, fun s hf => ⟨_, exec_deobf_badConfig hf, raise_spec s _⟩⟩
  have hbuf := bufRead_exec_deobf hf (exec_deobf_runs hf)
  refine ⟨_, exec_deobf_runs hf, fun i hi => (hbuf i).trans (if_pos hi),
    fun a ha => (hbuf a).trans (if_neg (by omega)), (complete_spec (s.setBuf _)).1, fun name hname => ?_,
    fun _ => rfl, fun _ => rfl, fun _ _ => rfl, rfl, rfl, rfl, rfl, rfl⟩
  rw [complete, readReg_setStatus _ _ (List.ne_of_not_mem_cons hname), readReg_setBuf]

theorem xor3_xor3 (i : Nat) (bs : List Byte) : xor3 i (xor3 i bs) = bs := by
  induction bs generalizing i with
  | nil => rfl
  | cons b bs ih => rw [xor3, xor3, ih, xor_cancel_right]

theorem len_exec_deobf (hf : bufferFits s) (h : exec .deobf s = .next t) : t.len = s.len := by
  obtain rfl := eq_of_exec_next (exec_deobf_runs hf) h
  rfl

/-- Settles O26: the first DEOBF leaves LEN, so the second reaches the same bytes and XORs each with the same entry. -/
theorem deobfTwiceRestoresBuffer : Obligations.DeobfTwiceRestoresBuffer := by
  refine ⟨xor3_xor3 0, fun s hf => ?_⟩
  obtain ⟨t, ht⟩ := exec_answers .deobf s
  obtain ⟨v, hv⟩ := exec_answers .deobf t
  have hlen := len_exec_deobf hf ht
  have hft : bufferFits t := by rwa [bufferFits, hlen]
  refine ⟨t, v, ht, hv, fun a => ?_⟩
  rw [bufRead_exec_deobf hft hv, bufRead_exec_deobf hf ht, hlen]
  split
  · exact xor_cancel_right _ _
  · rfl

end Sys2Proof.Machine
end

section
/-! The grid decoders: what DECMAP and DECATT store and leave as it was, and that LEN, N and BUF alone decide it
(R160 to R171). -/
namespace Sys2Proof.Machine

variable {s s' t t' : State}

/-! ### A grid written from address 0 -/

theorem lookup_writeBlock_range {α : Type} (m : Memory α) (cell : Nat → α) (count i : Nat) :
    Memory.lookup (Memory.writeBlock m 0 ((List.range count).map cell)) i =
      if i < count then some (cell i) else Memory.lookup m i := by
  rw [Memory.lookup_writeBlock]
  by_cases hi : i < count <;> simp [hi]

/-! ### What storing a terrain grid does (R162) -/

theorem tgRead_storeTerrain (cell : Nat → TerrainCell) {i : Nat} (hi : i < s.n.toNat * s.n.toNat) :
    tgRead (storeTerrain s ((List.range (s.n.toNat * s.n.toNat)).map cell)) i = cell i := by
  simp [tgRead, storeTerrain, lookup_writeBlock_range, hi]

theorem readReg_storeTerrain (cells : List TerrainCell) {name : Reg} (h : name ∉ [Reg.tgN, .status]) :
    readReg (storeTerrain s cells) name = readReg s name := by
  cases name with
  | tgN | status => simp at h
  | _ => rfl

/-- Settles O27: DECMAP completes after it stores the cells of `mapCell`. -/
theorem decmapFillsTerrainGrid : Obligations.DecmapFillsTerrainGrid := by
  intro s hc hl
  refine ⟨_, exec_decmap_runs hc hl, fun i hi => tgRead_storeTerrain _ hi, fun i hi => ?outside, rfl, ?status, ?regs,
    fun _ => rfl, fun _ => rfl, fun _ _ => rfl, rfl, rfl, rfl, rfl, rfl⟩
  case outside => exact (lookup_writeBlock_range s.tg _ _ i).trans (if_neg (by omega))
  case status => simp [StatusAfter, storeTerrain, ErrCode.code]
  case regs =>
    intro name hname
    rw [complete, readReg_setStatus _ _ (by rintro rfl; simp at hname), readReg_storeTerrain _ hname]

/-! ### What storing an attribute grid does (R168) -/

theorem agRead_storeAttributes (attr : Nat → Byte) {i : Nat} (hi : i < s.n.toNat * s.n.toNat) :
    agRead (storeAttributes s ((List.range (s.n.toNat * s.n.toNat)).map attr)) i = attr i := by
  simp [agRead, storeAttributes, lookup_writeBlock_range, hi]

theorem readReg_storeAttributes (attrs : List Byte) {name : Reg} (h : name ∉ [Reg.agN, .status]) :
    readReg (storeAttributes s attrs) name = readReg s name := by
  cases name with
  | agN | status => simp at h
  | _ => rfl

/-- DECATT in either layout, once its length is accepted: the grid that it stores, and all that it leaves. -/
theorem complete_storeAttributes_spec (attr : Nat → Byte)
    (ht : t = complete (storeAttributes s ((List.range (s.n.toNat * s.n.toNat)).map attr))) :
    (∀ i, i < s.n.toNat * s.n.toNat → agRead t i = attr i) ∧
    (∀ i, s.n.toNat * s.n.toNat ≤ i → Memory.lookup t.ag i = Memory.lookup s.ag i) ∧
    t.agN = s.n ∧
    StatusAfter s t (Status.tgValid s.status) true (Status.miss s.status) (Status.esticky s.status) 0 ∧
    SameRegs [.agN, .status] s t ∧ SameBuf s t ∧ SameTg s t ∧ SameFb s t ∧ SameOutside s t := by
  subst ht
  refine ⟨fun i hi => agRead_storeAttributes attr hi, fun i hi => ?outside, rfl, ?status, ?regs,
    fun _ => rfl, fun _ => rfl, fun _ _ => rfl, rfl, rfl, rfl, rfl, rfl⟩
  case outside => exact (lookup_writeBlock_range s.ag attr _ i).trans (if_neg (by omega))
  case status => simp [StatusAfter, storeAttributes, ErrCode.code]
  case regs =>
    intro name hname
    rw [complete, readReg_setStatus _ _ (by rintro rfl; simp at hname), readReg_storeAttributes _ hname]

/-- Settles O29: the length selects the word layout, whose byte of cell i stands at 4 + 2i. -/
theorem decattWordLayout : Obligations.DecattWordLayout :=
  fun s hc hl =>
    ⟨_, exec_decatt_wordLayout hc hl, complete_storeAttributes_spec (wordLayoutAttr s Config.attLowOff) rfl⟩

/-- Settles O30: the length selects the byte layout, the last N² bytes. -/
theorem decattByteLayout : Obligations.DecattByteLayout :=
  fun s hc hw hl =>
    ⟨_, exec_decatt_byteLayout hc hw hl, complete_storeAttributes_spec (byteLayoutAttr s s.len.toNat s.n.toNat) rfl⟩

/-! ### What the decoders depend on (R164) -/

theorem decoderConfigured_congr (hlen : s.len = s'.len) (hn : s.n = s'.n) :
    decoderConfigured s ↔ decoderConfigured s' := by
  rw [decoderConfigured, decoderConfigured, hlen, hn]

theorem bufRead_eq_of_sameBuf (h : SameBuf s s') : bufRead s = bufRead s' := funext fun a => (h a).symm

theorem mapCell_congr (h : SameBuf s s') : mapCell s = mapCell s' := by
  funext len n i
  rw [mapCell, mapCell, bufRead_eq_of_sameBuf h]

theorem wordLayoutAttr_congr (h : SameBuf s s') : wordLayoutAttr s = wordLayoutAttr s' := by
  funext lowOff i
  rw [wordLayoutAttr, wordLayoutAttr, bufRead_eq_of_sameBuf h]

theorem byteLayoutAttr_congr (h : SameBuf s s') : byteLayoutAttr s = byteLayoutAttr s' := by
  funext len n i
  rw [byteLayoutAttr, byteLayoutAttr, bufRead_eq_of_sameBuf h]

/-- Two commands that raise the same error end with the same code, which is not 0. -/
theorem raise_same_err {e : ErrCode} (he : e ≠ .none) {p : Prop} :
    Status.err (raise e s).status = Status.err (raise e s').status ∧ (Status.err (raise e s).status = 0 → p) :=
  ⟨by simp, fun h0 => absurd (by simpa using h0) (code_ne_zero he)⟩

theorem complete_same_err : Status.err (complete s).status = Status.err (complete s').status := by simp

/-- DECMAP's half of R164: both states pass the same checks, and the cells stored are the same function of BUF. -/
theorem decmap_pure (hlen : s.len = s'.len) (hn : s.n = s'.n) (hbuf : SameBuf s s')
    (h : exec .decmap s = .next t) (h' : exec .decmap s' = .next t') :
    Status.err t.status = Status.err t'.status ∧
      (Status.err t.status = 0 → t.tgN = t'.tgN ∧ ∀ i, i < s.n.toNat * s.n.toNat → tgRead t i = tgRead t' i) := by
  have hcc := decoderConfigured_congr hlen hn
  by_cases hc : decoderConfigured s
  · by_cases hl : 3 * s.n.toNat * s.n.toNat ≤ s.len.toNat
    · obtain rfl := eq_of_exec_next (exec_decmap_runs hc hl) h
      obtain rfl := eq_of_exec_next (exec_decmap_runs (hcc.1 hc) (by rwa [← hlen, ← hn])) h'
      have hcell : mapCell s s.len.toNat s.n.toNat = mapCell s' s'.len.toNat s'.n.toNat := by
        rw [mapCell_congr hbuf, hlen, hn]
      exact ⟨complete_same_err, fun _ => ⟨hn, fun i hi => (tgRead_storeTerrain _ hi).trans
        ((congrFun hcell i).trans (tgRead_storeTerrain _ (hn ▸ hi)).symm)⟩⟩
    · obtain rfl := eq_of_exec_next (exec_decmap_tooSmall hc (by omega)) h
      obtain rfl := eq_of_exec_next (exec_decmap_tooSmall (hcc.1 hc) (by rw [← hlen, ← hn]; omega)) h'
      exact raise_same_err (by decide)
  · obtain rfl := eq_of_exec_next (exec_decmap_badConfig hc) h
    obtain rfl := eq_of_exec_next (exec_decmap_badConfig (mt hcc.2 hc)) h'
    exact raise_same_err (by decide)

/-- Two DECATTs that store the same attributes end with the same code and the same grid. -/
theorem storeAttributes_agree (hn : s.n = s'.n) {attr attr' : Nat → Byte} (ha : attr = attr')
    (ht : t = complete (storeAttributes s ((List.range (s.n.toNat * s.n.toNat)).map attr)))
    (ht' : t' = complete (storeAttributes s' ((List.range (s'.n.toNat * s'.n.toNat)).map attr'))) :
    Status.err t.status = Status.err t'.status ∧
      (Status.err t.status = 0 → t.agN = t'.agN ∧ ∀ i, i < s.n.toNat * s.n.toNat → agRead t i = agRead t' i) := by
  subst ha ht ht'
  exact ⟨complete_same_err, fun _ => ⟨hn, fun i hi =>
    (agRead_storeAttributes attr hi).trans (agRead_storeAttributes attr (hn ▸ hi)).symm⟩⟩

/-- DECATT's half of R164: both states take the same layout or raise the same error. -/
theorem decatt_pure (hlen : s.len = s'.len) (hn : s.n = s'.n) (hbuf : SameBuf s s')
    (h : exec .decatt s = .next t) (h' : exec .decatt s' = .next t') :
    Status.err t.status = Status.err t'.status ∧
      (Status.err t.status = 0 → t.agN = t'.agN ∧ ∀ i, i < s.n.toNat * s.n.toNat → agRead t i = agRead t' i) := by
  have hcc := decoderConfigured_congr hlen hn
  by_cases hc : decoderConfigured s
  · by_cases hw : s.len.toNat = 4 + 2 * s.n.toNat * s.n.toNat
    · refine storeAttributes_agree hn ?_ (eq_of_exec_next (exec_decatt_wordLayout hc hw) h).symm
        (eq_of_exec_next (exec_decatt_wordLayout (hcc.1 hc) (by rwa [← hlen, ← hn])) h').symm
      rw [wordLayoutAttr_congr hbuf]
    · have hw' : s'.len.toNat ≠ 4 + 2 * s'.n.toNat * s'.n.toNat := by rwa [← hlen, ← hn]
      by_cases hl : s.n.toNat * s.n.toNat ≤ s.len.toNat
      · refine storeAttributes_agree hn ?_ (eq_of_exec_next (exec_decatt_byteLayout hc hw hl) h).symm
          (eq_of_exec_next (exec_decatt_byteLayout (hcc.1 hc) hw' (by rwa [← hlen, ← hn])) h').symm
        rw [byteLayoutAttr_congr hbuf, hlen, hn]
      · obtain rfl := eq_of_exec_next (exec_decatt_badAttLayout hc hw (by omega)) h
        obtain rfl := eq_of_exec_next (exec_decatt_badAttLayout (hcc.1 hc) hw' (by rw [← hlen, ← hn]; omega)) h'
        exact raise_same_err (by decide)
  · obtain rfl := eq_of_exec_next (exec_decatt_badConfig hc) h
    obtain rfl := eq_of_exec_next (exec_decatt_badConfig (mt hcc.2 hc)) h'
    exact raise_same_err (by decide)

/-- Settles O32, by the two decoders' halves. -/
theorem decodersArePure : Obligations.DecodersArePure :=
  fun _ _ _ _ hlen hn hbuf => ⟨decmap_pure hlen hn hbuf, decatt_pure hlen hn hbuf⟩

end Sys2Proof.Machine
end

section
/-! The texture sampler: the tile that an index resolves to, the texel that it is sampled at and the same texel by
integer division at pixel centres, the water scroll, the symmetry codes, and SAMPLE (R180 to R195). -/
namespace Sys2Proof.Machine

variable {s : State} {tile : Byte} {a : TileAsset}

/-! ### Hits and misses (R182) -/

theorem resolve_of_absent (h : texAsset s tile = none) : resolve s tile = none := by
  simp only [resolve, h]

theorem toNat_ne_zero_iff {n : BitVec 16} : n.toNat ≠ 0 ↔ n ≠ 0 := (BitVec.toNat_inj (y := 0)).not

theorem resolve_of_present (h : texAsset s tile = some a) :
    resolve s tile = if a.width ≠ 0 ∧ a.height ≠ 0 then some a else none := by
  simp only [resolve, h, Nat.one_le_iff_ne_zero, toNat_ne_zero_iff]

theorem sampleTile_of_unresolved (h : resolve s tile = none) (u v : Rat) (wx wy time : Nat) :
    sampleTile s tile u v wx wy time = (Config.placeholder, true) := by
  simp only [sampleTile, h]

theorem sampleTile_of_resolved (h : resolve s tile = some a) (u v : Rat) (wx wy time : Nat) :
    sampleTile s tile u v wx wy time = (sampleAsset s tile a u v wx wy time, false) := by
  simp only [sampleTile, h]

/-- Settles O35: neither kind of tile resolves. -/
theorem sampleMissesAreFlat : Obligations.SampleMissesAreFlat := by
  rintro s tile u v wx wy time (habsent | ⟨a, ha, hzero⟩)
  · exact sampleTile_of_unresolved (resolve_of_absent habsent) ..
  · refine sampleTile_of_unresolved ((resolve_of_present ha).trans (if_neg ?_)) ..
    exact not_and_or.2 (hzero.imp not_not.2 not_not.2)

/-! ### The texel of a resolved tile (R183 to R188) -/

/-- Times the dimension, the scale of R183 leaves REPEAT. -/
theorem texScale_mul_dim (repeatSpan : Nat) {dim : Nat} (hd : dim ≠ 0) (x shift : Rat) :
    (x * texScale repeatSpan dim + shift) * dim = x * repeatSpan + shift * dim := by
  have hd : (dim : Rat) ≠ 0 := Nat.cast_ne_zero.2 hd
  rw [texScale]
  field_simp

theorem effU_mul_width (water : Bool) (repeatSpan wx time : Nat) {width : Nat} (hw : width ≠ 0) (u : Rat) :
    effU water repeatSpan width wx time u * width =
      (wx + u) * repeatSpan + (if water then ((time % 20000 : Nat) : Rat) * width / 20000 else 0) := by
  rw [effU, texScale_mul_dim _ hw, ite_zero_mul, waterScroll, mul_one_div, div_mul_eq_mul_div]

theorem effV_mul_height (water : Bool) (repeatSpan wx wy time : Nat) {height : Nat} (hh : height ≠ 0) (u v : Rat) :
    effV water repeatSpan height wx wy time u v * height =
      (wy + v) * repeatSpan + (if water then waterWave time wx u * height else 0) := by
  rw [effV, texScale_mul_dim _ hh, ite_zero_mul]

/-- Settles O36: a texel coordinate is the floor of the effective coordinate times the dimension, which cancels the
scale. -/
theorem sampledTexelClosedForms : Obligations.SampledTexelClosedForms := by
  intro s tile a u v wx wy time ha hw hh
  rw [sampleTile_of_resolved ((resolve_of_present ha).trans (if_pos ⟨hw, hh⟩)), sampleAsset, texelCoord_eq,
    texelCoord_eq, effU_mul_width _ _ _ _ (toNat_ne_zero_iff.2 hw), effV_mul_height _ _ _ _ _ (toNat_ne_zero_iff.2 hh),
    waterWave, windPhase, ratFloor_eq, ratFloor_eq]

/-! ### The texel at a pixel centre, in integers (R188) -/

/-- The texel coordinate of a quotient of natural numbers. -/
theorem floor_emod_of_eq_div {q : Rat} {num den : Nat} (h : q = (num : Rat) / (den : Rat)) (dim : Nat) :
    (q.floor % (dim : Int)).toNat = num / den % dim := by
  rw [h, ratFloor_eq, floor_natCast_div, ← Int.natCast_mod, Int.toNat_natCast]

/-- A world coordinate at a pixel centre, times REPEAT, over the denominator 2R. -/
theorem pixelCentre_span {r : Nat} (hr : 1 ≤ r) (w p repeatSpan : Nat) :
    ((w : Rat) + (2 * p + 1) / (2 * r)) * repeatSpan =
      ((repeatSpan * (2 * r * w + (2 * p + 1)) : Nat) : Rat) / ((2 * r : Nat) : Rat) := by
  have hr : (r : Rat) ≠ 0 := Nat.cast_ne_zero.2 (by omega)
  push_cast
  field_simp

/-- The same with the water scroll added, over the denominator 40000·R. -/
theorem pixelCentre_span_scrolled {r : Nat} (hr : 1 ≤ r) (w p repeatSpan scroll width : Nat) :
    ((w : Rat) + (2 * p + 1) / (2 * r)) * repeatSpan + scroll * width / 20000 =
      ((20000 * repeatSpan * (2 * r * w + (2 * p + 1)) + 2 * r * width * scroll : Nat) : Rat) /
        ((40000 * r : Nat) : Rat) := by
  have hr : (r : Rat) ≠ 0 := Nat.cast_ne_zero.2 (by omega)
  push_cast
  field_simp
  ring

/-- A wrapped texel coordinate lies below its dimension. -/
theorem toNat_emod_lt (k : Int) {dim : Nat} (hd : dim ≠ 0) : (k % (dim : Int)).toNat < dim :=
  (Int.toNat_lt (Int.emod_nonneg _ (by omega))).2 (Int.emod_lt_of_pos _ (by omega))

/-- Settles O37: the closed forms of O36 at pixel centres are quotients of natural numbers, but for the wave. -/
theorem pixelCentreTexelClosedForm : Obligations.PixelCentreTexelClosedForm := by
  intro s tile a r px py wx wy time ha hw hh hr _ _
  have texel := sampledTexelClosedForms s tile a ((2 * px + 1) / (2 * r)) ((2 * py + 1) / (2 * r)) wx wy time ha hw hh
  constructor
  · intro hland
    rw [texel, hland, if_neg Bool.false_ne_true, if_neg Bool.false_ne_true, add_zero, add_zero,
      floor_emod_of_eq_div (pixelCentre_span hr wx px _), floor_emod_of_eq_div (pixelCentre_span hr wy py _)]
  · intro hwater
    rw [texel, hwater, if_pos rfl, floor_emod_of_eq_div (pixelCentre_span_scrolled hr wx px _ _ _)]
    exact ⟨_, toNat_emod_lt _ (toNat_ne_zero_iff.2 hh), rfl⟩

/-! ### The water scroll (R185, R194) -/

theorem waterScroll_add_period (time : Nat) : waterScroll (time + 20000) = waterScroll time := by
  rw [waterScroll, Nat.add_mod_right, waterScroll]

theorem waterScroll_nonneg (time : Nat) : 0 ≤ waterScroll time := by
  rw [waterScroll]; positivity

theorem waterScroll_lt_one (time : Nat) : waterScroll time < 1 := by
  have hlt : ((time % 20000 : Nat) : Rat) < 20000 := by exact_mod_cast Nat.mod_lt time (by decide)
  rw [waterScroll]
  linarith

/-- Settles O38: TIME_MS enters the column of a water tile through the scroll alone. -/
theorem waterScrollIsPeriodic : Obligations.WaterScrollIsPeriodic := by
  intro repeatSpan width wx time u _
  refine ⟨waterScroll_add_period time, waterScroll_nonneg time, waterScroll_lt_one time, ?_⟩
  rw [effU, waterScroll_add_period, effU]

/-! ### The symmetry codes (R189) -/

/-- Settles O39: each code's bits select the swap and the flips. -/
theorem symmetryCodes : Obligations.SymmetryCodes :=
  fun _ _ => ⟨rfl, rfl, rfl, rfl, rfl, rfl, rfl, rfl⟩

/-! ### SAMPLE (R191) -/

theorem toNat_sRgb_setSample (s : State) (c : Colour) :
    (s.setSample c).sRgb.toNat = c.r.toNat * 65536 + c.g.toNat * 256 + c.b.toNat := by
  have hg := c.g.isLt
  have hb := c.b.isLt
  simp only [setSample_sRgb, BitVec.toNat_append]
  rw [← Nat.shiftLeft_add_eq_or_of_lt hg, ← Nat.shiftLeft_add_eq_or_of_lt hb, Nat.shiftLeft_eq, Nat.shiftLeft_eq]
  omega

theorem readReg_setSample (s : State) (c : Colour) {name : Reg} (h : name ≠ .sRgb) :
    readReg (s.setSample c) name = readReg s name := by
  cases name with
  | sRgb => exact absurd rfl h
  | _ => rfl

/-- Settles O33: SAMPLE stores the colour of `sampleResult` and its miss, then completes. -/
theorem sampleWritesColour : Obligations.SampleWritesColour := by
  intro s hc
  refine ⟨_, exec_sample_runs hc, ⟨toNat_sRgb_setSample (setMiss false s) _, ?status⟩, ?regs,
    fun _ => rfl, fun _ => rfl, fun _ => rfl, fun _ _ => rfl, rfl, rfl, rfl, rfl, rfl⟩
  case status =>
    change StatusAfter s _ _ _ (sampleResult s).2 _ _
    simp [StatusAfter, ErrCode.code]
  case regs =>
    intro name hname
    have hrgb := List.ne_of_not_mem_cons hname
    have hstatus := List.ne_of_not_mem_cons (List.not_mem_of_not_mem_cons hname)
    rw [complete, readReg_setStatus _ _ hstatus, setMiss, readReg_setStatus _ _ hstatus, readReg_setSample _ _ hrgb,
      setMiss, readReg_setStatus _ _ hstatus]

end Sys2Proof.Machine
end

section
/-! The tile compositor: a cell's corners and setup, its pixel with and without an overlay, the blend in integers, and
the frame that RENDER leaves (R210 to R225). -/
namespace Sys2Proof.Machine

variable {s : State}

/-! ### Corners (R212) -/

theorem clampAxis_of_lt {n k : Nat} (h : k < n) : clampAxis n k = k := Nat.min_eq_left (Nat.le_pred_of_lt h)

theorem clampAxis_of_last_le {n k : Nat} (h : n - 1 ≤ k) : clampAxis n k = n - 1 := Nat.min_eq_right h

theorem clampAxis_lt {n : Nat} (hn : 1 ≤ n) (k : Nat) : clampAxis n k < n :=
  (Nat.min_le_right _ _).trans_lt (Nat.sub_one_lt_of_lt hn)

/-- The row-major index of a cell inside the grid is below N² (R66). -/
theorem gridIndex_lt {n x y : Nat} (hx : x < n) (hy : y < n) : gridIndex n x y < n * n :=
  calc y * n + x < (y + 1) * n := by rw [Nat.succ_mul]; omega
    _ ≤ n * n := Nat.mul_le_mul_right n hy

theorem cornerIndex_of_last_column {n x : Nat} (hx : n - 1 ≤ x) (y : Nat) :
    cornerIndex n x y = cornerIndex n (n - 1) y := by
  rw [cornerIndex, cornerIndex, clampAxis_of_last_le hx, clampAxis_of_last_le le_rfl]

theorem cornerIndex_of_last_row {n y : Nat} (hy : n - 1 ≤ y) (x : Nat) :
    cornerIndex n x y = cornerIndex n x (n - 1) := by
  rw [cornerIndex, cornerIndex, clampAxis_of_last_le hy, clampAxis_of_last_le le_rfl]

/-- Settles O48: each axis is clamped on its own. -/
theorem cornersClampToEdge : Obligations.CornersClampToEdge := by
  intro n x y hn
  refine ⟨fun hx => ⟨cornerIndex_of_last_column (Nat.le_succ_of_le hx) y, cornerIndex_of_last_column hx y⟩,
    fun hy => ⟨cornerIndex_of_last_row (Nat.le_succ_of_le hy) x, cornerIndex_of_last_row hy x⟩, fun hx hy => ?_,
    gridIndex_lt (clampAxis_lt hn x) (clampAxis_lt hn y)⟩
  rw [cornerIndex, clampAxis_of_lt hx, clampAxis_of_lt hy, gridIndex]

/-! ### Cell setup (R213 to R215) -/

/-- The four corner alphas of a cell are all `v`. -/
def CornerAlphasAre (s : State) (v : Byte) (x y : Nat) : Prop :=
  (cornerCell s x y).alpha = v ∧ (cornerCell s (x + 1) y).alpha = v ∧ (cornerCell s (x + 1) (y + 1)).alpha = v ∧
    (cornerCell s x (y + 1)).alpha = v

/-- The sample of a tile at a pixel of a cell, at the coordinates of R215 and R216. -/
def cellSample (s : State) (tile : Byte) (x y px py : Nat) : Colour × Bool :=
  sampleTile s tile (pixelCoords s x y px py).1 (pixelCoords s x y px py).2 x y s.timeMs.toNat

theorem cornerAlpha_eq (s : State) (x y : Nat) : cornerAlpha s x y = (cornerCell s x y).alpha.toNat := rfl

theorem cornerAlpha_le (s : State) (x y : Nat) : cornerAlpha s x y ≤ 255 :=
  Nat.le_of_lt_succ (cornerCell s x y).alpha.isLt

theorem cornerAlphasAre_iff {v : Byte} {x y : Nat} :
    CornerAlphasAre s v x y ↔ cornerAlpha s x y = v.toNat ∧ cornerAlpha s (x + 1) y = v.toNat ∧
      cornerAlpha s (x + 1) (y + 1) = v.toNat ∧ cornerAlpha s x (y + 1) = v.toNat := by
  simp only [CornerAlphasAre, cornerAlpha_eq, BitVec.toNat_inj]

/-- The least corner alpha is 255 when all are. -/
theorem min_cornerAlphas_eq_iff {x y : Nat} :
    min (min (cornerAlpha s x y) (cornerAlpha s (x + 1) y))
      (min (cornerAlpha s (x + 1) (y + 1)) (cornerAlpha s x (y + 1))) = 255 ↔ CornerAlphasAre s 255 x y := by
  have h1 := cornerAlpha_le s x y
  have h2 := cornerAlpha_le s (x + 1) y
  have h3 := cornerAlpha_le s (x + 1) (y + 1)
  have h4 := cornerAlpha_le s x (y + 1)
  rw [cornerAlphasAre_iff, show (255 : Byte).toNat = 255 from rfl]
  omega

/-- The greatest corner alpha is at least 1 when not all are 0. -/
theorem one_le_max_cornerAlphas_iff {x y : Nat} :
    1 ≤ max (max (cornerAlpha s x y) (cornerAlpha s (x + 1) y))
      (max (cornerAlpha s (x + 1) (y + 1)) (cornerAlpha s x (y + 1))) ↔ ¬ CornerAlphasAre s 0 x y := by
  rw [cornerAlphasAre_iff, show (0 : Byte).toNat = 0 from rfl]
  omega

theorem cellSetup_saturated {x y : Nat} (h : CornerAlphasAre s 255 x y) :
    (cellSetup s x y).baseTex = (cornerCell s x y).overlay ∧ (cellSetup s x y).ovEnabled = false := by
  simp only [cellSetup, min_cornerAlphas_eq_iff, h, decide_true, if_true, Bool.not_true, Bool.false_and, and_true]
  rfl

theorem cellSetup_baseTex {x y : Nat} (h : ¬ CornerAlphasAre s 255 x y) :
    (cellSetup s x y).baseTex = (cornerCell s x y).base :=
  if_neg (by rwa [decide_eq_true_iff, min_cornerAlphas_eq_iff])

theorem cellSetup_ovEnabled {x y : Nat} (h : ¬ CornerAlphasAre s 255 x y) :
    (cellSetup s x y).ovEnabled = true ↔ (cornerCell s x y).overlay ≠ 255 ∧ ¬ CornerAlphasAre s 0 x y := by
  simp only [cellSetup, min_cornerAlphas_eq_iff, one_le_max_cornerAlphas_iff, h, decide_false, Bool.not_false,
    Bool.true_and, Bool.and_eq_true, bne_iff_ne, decide_eq_true_eq]
  rfl

/-- With SYM_EN = 0 the code is 0, which leaves the pixel centre as it is. -/
theorem symXform_cellSymmetry (s : State) (x y px py : Nat) :
    symXform (cellSetup s x y).sym (pixelCentre px s.r.toNat) (pixelCentre py s.r.toNat) =
      pixelCoords s x y px py := by
  change symXform (if symEnabled s then _ else 0) _ _ = _
  by_cases h : symEnabled s = true
  · rw [if_pos h]; exact (if_pos h).symm
  · rw [if_neg h]; exact (if_neg h).symm

/-! ### The pixel of a cell (R216 to R218) -/

/-- The bilinear alpha at a pixel of a cell. -/
def cellAlpha (s : State) (x y px py : Nat) : Rat :=
  bilinearAlpha (cornerAlpha s x y) (cornerAlpha s (x + 1) y) (cornerAlpha s (x + 1) (y + 1)) (cornerAlpha s x (y + 1))
    (pixelCentre px s.r.toNat) (pixelCentre py s.r.toNat)

/-- A pixel whose overlay pass is off, or whose alpha does not exceed the threshold, is a sample of the base texture. -/
theorem pixelAt_base (mode : Config.BlendRound) {x y px py : Nat}
    (h : (cellSetup s x y).ovEnabled = true → ¬ 1 / 1000 < cellAlpha s x y px py) :
    pixelAt mode s x y px py = cellSample s (cellSetup s x y).baseTex x y px py := by
  rw [cellSample, ← symXform_cellSymmetry]
  exact if_neg (by rwa [Bool.and_eq_true, decide_eq_true_iff, not_and])

/-- Any other pixel blends the base texture's sample with the overlay's, and misses when either does. -/
theorem pixelAt_blend (mode : Config.BlendRound) {x y px py : Nat} (hon : (cellSetup s x y).ovEnabled = true)
    (h : 1 / 1000 < cellAlpha s x y px py) :
    pixelAt mode s x y px py =
      (blend mode (cellSample s (cellSetup s x y).baseTex x y px py).1
          (cellSample s (cornerCell s x y).overlay x y px py).1 (cellAlpha s x y px py),
        (cellSample s (cellSetup s x y).baseTex x y px py).2 ||
          (cellSample s (cornerCell s x y).overlay x y px py).2) := by
  rw [cellSample, cellSample, ← symXform_cellSymmetry]
  exact if_pos (Bool.and_eq_true_iff.2 ⟨hon, decide_eq_true h⟩)

/-- Settles O43: a saturated cell takes the overlay as its base texture and has no overlay pass. -/
theorem saturatedCellShowsOverlay : Obligations.SaturatedCellShowsOverlay := by
  intro mode s x y px py h1 h2 h3 h4
  obtain ⟨hbase, hoff⟩ := cellSetup_saturated (s := s) ⟨h1, h2, h3, h4⟩
  rw [pixelAt_base mode (by simp [hoff]), hbase, cellSample]

/-- Settles O44: either condition turns the overlay pass off. -/
theorem disabledOverlayShowsBase : Obligations.DisabledOverlayShowsBase := by
  intro mode s x y px py hsat hdisabled
  have hoff : ¬ (cellSetup s x y).ovEnabled = true := by
    rw [cellSetup_ovEnabled hsat]
    exact fun ⟨hreal, hsome⟩ => hdisabled.elim hreal hsome
  rw [pixelAt_base mode fun hon => absurd hon hoff, cellSetup_baseTex hsat, cellSample]

/-! ### The bilinear alpha in integers (R217) -/

theorem alphaDenominator_pos {r : Nat} (hr : 1 ≤ r) : 0 < alphaDenominator r := by
  unfold alphaDenominator; positivity

theorem bilinearAlpha_eq_div {r px py : Nat} (hr : 1 ≤ r) (hx : px < r) (hy : py < r) (a1 a2 a3 a4 : Nat) :
    bilinearAlpha a1 a2 a3 a4 (pixelCentre px r) (pixelCentre py r) =
      (alphaNumerator r a1 a2 a3 a4 px py : Rat) / (alphaDenominator r : Rat) := by
  have hr0 : (r : Rat) ≠ 0 := Nat.cast_ne_zero.2 (by omega)
  have hm : ((2 * r - (2 * px + 1) : Nat) : Rat) = 2 * r - (2 * px + 1) := by
    rw [Nat.cast_sub (by omega)]; push_cast; rfl
  have hn : ((2 * r - (2 * py + 1) : Nat) : Rat) = 2 * r - (2 * py + 1) := by
    rw [Nat.cast_sub (by omega)]; push_cast; rfl
  simp only [bilinearAlpha, pixelCentre, alphaNumerator, alphaDenominator, Nat.cast_add, Nat.cast_mul, hm, hn]
  push_cast
  field_simp
  ring

/-- The four weights of A add up to 4·R². -/
theorem alphaNumerator_le {r px py a1 a2 a3 a4 : Nat} (hx : px < r) (hy : py < r) (h1 : a1 ≤ 255) (h2 : a2 ≤ 255)
    (h3 : a3 ≤ 255) (h4 : a4 ≤ 255) : alphaNumerator r a1 a2 a3 a4 px py ≤ alphaDenominator r := by
  obtain ⟨p, hp⟩ : ∃ p, 2 * r = 2 * px + 1 + p := Nat.exists_eq_add_of_le (by omega)
  obtain ⟨q, hq⟩ : ∃ q, 2 * r = 2 * py + 1 + q := Nat.exists_eq_add_of_le (by omega)
  have hp' : 2 * r - (2 * px + 1) = p := by omega
  have hq' : 2 * r - (2 * py + 1) = q := by omega
  rw [alphaNumerator, hp', hq']
  calc a1 * p * q + a2 * (2 * px + 1) * q + a3 * (2 * px + 1) * (2 * py + 1) + a4 * p * (2 * py + 1)
      ≤ 255 * p * q + 255 * (2 * px + 1) * q + 255 * (2 * px + 1) * (2 * py + 1) + 255 * p * (2 * py + 1) := by gcongr
    _ = 255 * ((2 * px + 1 + p) * (2 * py + 1 + q)) := by ring
    _ = alphaDenominator r := by rw [← hp, ← hq, alphaDenominator]; ring

/-- Settles O46: the fraction clears the denominators 2R and 255, and A is a weighted sum of the alphas. -/
theorem bilinearAlphaIsFraction : Obligations.BilinearAlphaIsFraction :=
  fun _ a1 a2 a3 a4 _ _ hr hx hy h1 h2 h3 h4 =>
    ⟨bilinearAlpha_eq_div hr hx hy a1 a2 a3 a4, alphaNumerator_le hx hy h1 h2 h3 h4⟩

/-! ### The blend (R219) -/

/-- What `Round` is applied to in one channel of a blend. -/
def blendValue (base ov : Byte) (alpha : Rat) : Rat := (base.toNat : Rat) * (1 - alpha) + (ov.toNat : Rat) * alpha

/-- Either rounding stays between natural numbers. -/
theorem blendRound_mem (mode : Config.BlendRound) {q : Rat} {lo hi : Nat} (hlo : (lo : Rat) ≤ q) (hhi : q ≤ hi) :
    (lo : Int) ≤ blendRound mode q ∧ blendRound mode q ≤ hi := by
  cases mode with
  | floor =>
    simp only [blendRound, ratFloor_eq, Int.le_floor, Int.floor_le_iff, Int.cast_natCast]
    exact ⟨hlo, by linarith⟩
  | nearest =>
    simp only [blendRound, ratFloor_eq, Int.le_floor, Int.floor_le_iff, Int.cast_natCast]
    exact ⟨by linarith, by linarith⟩

/-- On a value inside the byte range the clamp does not act. -/
theorem toNat_blendChannel (mode : Config.BlendRound) {base ov : Byte} {alpha : Rat} {lo hi : Nat} (h255 : hi ≤ 255)
    (hlo : (lo : Rat) ≤ blendValue base ov alpha) (hhi : blendValue base ov alpha ≤ hi) :
    ((blendChannel mode base ov alpha).toNat : Int) = blendRound mode (blendValue base ov alpha) := by
  obtain ⟨h1, h2⟩ := blendRound_mem mode hlo hhi
  change ((BitVec.ofNat 8 (clampInt (blendRound mode (blendValue base ov alpha)) 0 255).toNat).toNat : Int) = _
  generalize blendRound mode (blendValue base ov alpha) = k at h1 h2 ⊢
  rw [clampInt, max_eq_left (by omega), min_eq_left (by omega), BitVec.toNat_ofNat]
  omega

theorem blendChannel_mem (mode : Config.BlendRound) {base ov : Byte} {alpha : Rat} {lo hi : Nat} (h255 : hi ≤ 255)
    (hlo : (lo : Rat) ≤ blendValue base ov alpha) (hhi : blendValue base ov alpha ≤ hi) :
    lo ≤ (blendChannel mode base ov alpha).toNat ∧ (blendChannel mode base ov alpha).toNat ≤ hi := by
  have h := blendRound_mem mode hlo hhi
  rw [← toNat_blendChannel mode h255 hlo hhi] at h
  exact_mod_cast h

/-- A convex combination lies between its ends. -/
theorem blendValue_mem (base ov : Byte) {alpha : Rat} (h0 : 0 ≤ alpha) (h1 : alpha ≤ 1) :
    ((min base.toNat ov.toNat : Nat) : Rat) ≤ blendValue base ov alpha ∧
      blendValue base ov alpha ≤ ((max base.toNat ov.toNat : Nat) : Rat) := by
  have hw : 1 - alpha + alpha = 1 := sub_add_cancel 1 alpha
  have hlo := Convex.min_le_combo (base.toNat : Rat) ov.toNat (sub_nonneg.2 h1) h0 hw
  have hhi := Convex.combo_le_max (base.toNat : Rat) ov.toNat (sub_nonneg.2 h1) h0 hw
  rw [blendValue, mul_comm, mul_comm (ov.toNat : Rat), Nat.cast_min, Nat.cast_max]
  exact ⟨hlo, hhi⟩

theorem max_toNat_le (a b : Byte) : max a.toNat b.toNat ≤ 255 :=
  max_le (Nat.le_of_lt_succ a.isLt) (Nat.le_of_lt_succ b.isLt)

/-- A channel whose exact value is a byte is that byte. -/
theorem blendChannel_of_value (mode : Config.BlendRound) {base ov c : Byte} {alpha : Rat}
    (h : blendValue base ov alpha = (c.toNat : Rat)) : blendChannel mode base ov alpha = c := by
  obtain ⟨hlo, hhi⟩ := blendChannel_mem mode (Nat.le_of_lt_succ c.isLt) h.ge h.le
  exact BitVec.eq_of_toNat_eq (le_antisymm hhi hlo)

/-- Settles O47: the exact value is a convex combination, and both roundings stay between natural numbers. -/
theorem blendStaysBetweenChannels : Obligations.BlendStaysBetweenChannels := by
  intro mode base ov alpha h0 h1
  obtain ⟨hlo, hhi⟩ := blendValue_mem base ov h0 h1
  obtain ⟨hmin, hmax⟩ := blendChannel_mem mode (max_toNat_le base ov) hlo hhi
  exact ⟨hmin, hmax, blendChannel_of_value mode (by simp [blendValue]),
    blendChannel_of_value mode (by simp [blendValue])⟩

/-- With alpha the fraction A/D a channel is rounded down by integer division. -/
theorem toNat_blendChannel_floor_div (base ov : Byte) {num den : Nat} (hden : 0 < den) (hle : num ≤ den) :
    (blendChannel .floor base ov ((num : Rat) / (den : Rat))).toNat = blendInt base.toNat ov.toNat num den := by
  have hden' : (0 : Rat) < den := Nat.cast_pos.2 hden
  have hone : (num : Rat) / den ≤ 1 := (div_le_one hden').2 (Nat.cast_le.2 hle)
  obtain ⟨hlo, hhi⟩ := blendValue_mem base ov (by positivity) hone
  have hvalue : blendValue base ov ((num : Rat) / den) =
      ((base.toNat * (den - num) + ov.toNat * num : Nat) : Rat) / (den : Rat) := by
    rw [blendValue]
    push_cast [Nat.cast_sub hle]
    field_simp
  have h := toNat_blendChannel .floor (max_toNat_le base ov) hlo hhi
  rw [blendRound, ratFloor_eq, hvalue, floor_natCast_div] at h
  exact_mod_cast h

/-- The threshold 1/1000 in integers (R218). -/
theorem threshold_lt_iff {r : Nat} (hr : 1 ≤ r) (num : Nat) :
    1 / 1000 < (num : Rat) / (alphaDenominator r : Rat) ↔ 51 * r * r < 50 * num := by
  have hpos : (0 : Rat) < alphaDenominator r := Nat.cast_pos.2 (alphaDenominator_pos hr)
  rw [div_lt_div_iff₀ (by norm_num) hpos, one_mul, alphaDenominator]
  norm_cast
  rw [show 1020 * r * r = 20 * (51 * r * r) by ring]
  omega

/-- Settles O45: the pass is on, and alpha is A/D. -/
theorem enabledOverlayBlends : Obligations.EnabledOverlayBlends := by
  intro s x y px py c1 c2 c3 c4 num den uv base ov hr hx hy hreal hsat hzero
  have hon : (cellSetup s x y).ovEnabled = true := (cellSetup_ovEnabled hsat).2 ⟨hreal, hzero⟩
  have halpha : cellAlpha s x y px py = (num : Rat) / (den : Rat) := bilinearAlpha_eq_div hr hx hy _ _ _ _
  have hle : num ≤ den := alphaNumerator_le hx hy (cornerAlpha_le s x y) (cornerAlpha_le s (x + 1) y)
    (cornerAlpha_le s (x + 1) (y + 1)) (cornerAlpha_le s x (y + 1))
  have hthreshold : 1 / 1000 < cellAlpha s x y px py ↔ 51 * s.r.toNat * s.r.toNat < 50 * num :=
    halpha ▸ threshold_lt_iff hr num
  constructor
  · intro hover
    have channel := fun b o : Byte => toNat_blendChannel_floor_div b o (alphaDenominator_pos hr) hle
    rw [pixelAt_blend .floor hon (hthreshold.2 hover), cellSetup_baseTex hsat, halpha]
    exact ⟨channel _ _, channel _ _, channel _ _, rfl⟩
  · intro hunder
    rw [pixelAt_base .floor fun _ => mt hthreshold.1 (Nat.not_lt.2 hunder), cellSetup_baseTex hsat]
    rfl

/-! ### The frame (R210, R220, R222) -/

theorem mul_add_lt_mul {i n p r : Nat} (hi : i < n) (hp : p < r) : i * r + p < n * r :=
  calc i * r + p < (i + 1) * r := by rw [Nat.succ_mul]; omega
    _ ≤ n * r := Nat.mul_le_mul_right r hi

theorem frameSide_le (hc : renderConfigured s) : frameSide s ≤ Config.fbSideMax := by
  obtain ⟨_, _, _, _, hside⟩ := hc
  exact hside

/-- The pixel of the frame at the place that R220 gives a sub-tile pixel of a cell. -/
theorem framePixel_of_cell (mode : Config.BlendRound) {px py : Nat} (hx : px < s.r.toNat) (hy : py < s.r.toNat)
    (i j : Nat) : framePixel mode s (j * s.r.toNat + py) (i * s.r.toNat + px) =
      pixelAt mode s (s.x0.toNat + i) (s.y0.toNat + j) px py := by
  have hr : 0 < s.r.toNat := by omega
  simp only [framePixel, Nat.mul_comm _ s.r.toNat, Nat.mul_add_div hr, Nat.mul_add_mod, Nat.div_eq_of_lt hx,
    Nat.div_eq_of_lt hy, Nat.mod_eq_of_lt hx, Nat.mod_eq_of_lt hy, Nat.add_zero]

/-- A property holds of some pixel of the frame when it holds of some sub-tile pixel of a cell of the region. -/
theorem exists_framePixel_iff (mode : Config.BlendRound) (hr : 1 ≤ s.r.toNat) (p : Colour × Bool → Prop) :
    (∃ row col, row < frameSide s ∧ col < frameSide s ∧ p (framePixel mode s row col)) ↔
      ∃ i j px py, i < s.nvis.toNat ∧ j < s.nvis.toNat ∧ px < s.r.toNat ∧ py < s.r.toNat ∧
        p (pixelAt mode s (s.x0.toNat + i) (s.y0.toNat + j) px py) := by
  constructor
  · rintro ⟨row, col, hrow, hcol, hp⟩
    exact ⟨col / s.r.toNat, row / s.r.toNat, col % s.r.toNat, row % s.r.toNat, (Nat.div_lt_iff_lt_mul hr).2 hcol,
      (Nat.div_lt_iff_lt_mul hr).2 hrow, Nat.mod_lt _ hr, Nat.mod_lt _ hr, hp⟩
  · rintro ⟨i, j, px, py, hi, hj, hx, hy, hp⟩
    exact ⟨_, _, mul_add_lt_mul hj hy, mul_add_lt_mul hi hx, (framePixel_of_cell mode hx hy i j).symm ▸ hp⟩

/-- What FB reads as after the frame is made: the frame, and free values around it. -/
theorem fbRead_renderFrame (mode : Config.BlendRound) (hs : frameSide s ≤ Config.fbSideMax) (row : Nat) {col : Nat}
    (hcol : col < Config.fbSideMax) : fbRead (renderFrame mode s) row col =
      if row < frameSide s ∧ col < frameSide s then (framePixel mode s row col).1
      else Config.unspecPixel s.draws row col := by
  have hfb : (renderFrame mode s).fb = rowsFrom _ _ _ := frameEntries_map mode s Prod.fst
  rw [fbRead, hfb, lookup_frame hs _ _ _ hcol]
  split <;> rfl

theorem miss_renderFrame (mode : Config.BlendRound) (hr : 1 ≤ s.r.toNat) :
    Status.miss (renderFrame mode s).status = true ↔
      ∃ i j px py, i < s.nvis.toNat ∧ j < s.nvis.toNat ∧ px < s.r.toNat ∧ py < s.r.toNat ∧
        (pixelAt mode s (s.x0.toNat + i) (s.y0.toNat + j) px py).2 = true := by
  rw [← exists_framePixel_iff mode hr (fun c => c.2 = true), ← any_frameEntries, renderFrame, setMiss_status,
    Status.miss_withMiss]

theorem readReg_setFrame (s : State) (m : Memory Colour) (side : BitVec 32) {name : Reg} (h : name ≠ .fbSide) :
    readReg (s.setFrame m side) name = readReg s name := by
  cases name with
  | fbSide => exact absurd rfl h
  | _ => rfl

/-- Settles O40: RENDER makes the frame of the state it starts from, then completes. -/
theorem renderDrawsRegion : Obligations.RenderDrawsRegion := by
  intro s hc hg
  have hside : frameSide s ≤ Config.fbSideMax := frameSide_le hc
  have ⟨_, _, hr, _⟩ := hc
  refine ⟨_, exec_render_runs hc hg, fun i j px py hi hj hx hy => ?pixel, ?side, ?miss, ?status, ?regs,
    fun _ => rfl, fun _ => rfl, fun _ => rfl, rfl, rfl, rfl, rfl, rfl⟩
  case pixel =>
    have hrow : j * s.r.toNat + py < frameSide s := mul_add_lt_mul hj hy
    have hcol : i * s.r.toNat + px < frameSide s := mul_add_lt_mul hi hx
    refine (fbRead_renderFrame (s := setMiss false s) _ hside _ (hcol.trans_le hside)).trans ?_
    rw [if_pos ⟨hrow, hcol⟩]
    exact congrArg Prod.fst (framePixel_of_cell _ hx hy i j)
  case side => exact Nat.mod_eq_of_lt (hside.trans_lt (by decide))
  case miss =>
    rw [complete_status, Status.miss_withErr]
    exact miss_renderFrame (s := setMiss false s) _ hr
  case status => simp [StatusAfter, renderFrame, ErrCode.code]
  case regs =>
    intro name hname
    have hfb := List.ne_of_not_mem_cons hname
    have hstatus := List.ne_of_not_mem_cons (List.not_mem_of_not_mem_cons hname)
    rw [complete, readReg_setStatus _ _ hstatus, renderFrame, setMiss, readReg_setStatus _ _ hstatus,
      readReg_setFrame _ _ _ hfb, setMiss, readReg_setStatus _ _ hstatus]

/-- Settles O41: outside the new frame FB lists nothing. -/
theorem renderFrameIsFresh : Obligations.RenderFrameIsFresh := by
  intro s hc hg
  refine ⟨_, exec_render_runs hc hg, fun row col _ hcol hout => ?_⟩
  exact (fbRead_renderFrame (s := setMiss false s) _ (frameSide_le hc) row hcol).trans (if_neg hout)

end Sys2Proof.Machine
end

section
/-! How commands end and what a run records: the codes of R240's rows, the frame of a command that raises (R241), each
command's own errors (R242, R243, R245, R246), and the sticky flag over a run (R251). -/
namespace Sys2Proof.Machine

variable {s t : State}

/-! ### Completed or raised (R240, R241) -/

/-- Which errors each command can raise, in the order of R240's codes. -/
def errorRows : List (Instr × ErrCode) :=
  [(.decmap, .tooSmall), (.decatt, .badAttLayout), (.decrypt, .badConfig), (.deobf, .badConfig), (.decmap, .badConfig),
    (.decatt, .badConfig), (.sample, .badConfig), (.render, .badConfig), (.render, .noGrid)]

/-- The state in which a command makes its checks: SAMPLE and RENDER clear MISS before they make theirs (R191, R210). -/
def checkedState (i : Instr) (s : State) : State := if i = .sample ∨ i = .render then setMiss false s else s

theorem err_complete (s : State) : Status.err (complete s).status = 0 := by simp [ErrCode.code]

theorem err_raise (e : ErrCode) (s : State) : Status.err (raise e s).status = e.code := by simp

/-- A command ends with ERR = 0, or raises one of its own errors in the state in which it made its checks. -/
theorem CommandMove.completes_or_raises {i : Instr} (h : CommandMove s i t) :
    Status.err t.status = 0 ∨ ∃ e, (i, e) ∈ errorRows ∧ t = raise e (checkedState i s) := by
  cases h with
  | raised _ e he =>
    have hkeepsMiss : ¬ (i = .sample ∨ i = .render) := by rintro (rfl | rfl) <;> simp at he
    exact .inr ⟨e, List.subset_def.1 (by decide) he, by rw [checkedState, if_neg hkeepsMiss]⟩
  | raisedNoMiss _ e he =>
    have hclearsMiss : i = .sample ∨ i = .render := by simp at he; tauto
    exact .inr ⟨e, List.subset_def.1 (by decide) he, by rw [checkedState, if_pos hclearsMiss]⟩
  | _ => exact .inl (err_complete _)

/-- Settles O11: a command answers, and then ERR is 0 or the code of one of its rows. -/
theorem everyCommandEndsWithItsCodes : Obligations.EveryCommandEndsWithItsCodes := by
  intro i s
  obtain ⟨t, ht⟩ := exec_answers i s
  refine ⟨t, ht, ?_⟩
  rcases (exec_move ht).completes_or_raises with h0 | ⟨e, he, rfl⟩
  · exact .inl h0
  · have hrows : ∀ row ∈ errorRows,
        (row.2.code = 1 ∧ row.1 = .decmap) ∨ (row.2.code = 2 ∧ row.1 = .decatt) ∨
        (row.2.code = 4 ∧ row.1 ∈ [.decrypt, .deobf, .decmap, .decatt, .sample, .render]) ∨
        (row.2.code = 5 ∧ row.1 = .render) := by decide
    rw [err_raise]
    exact .inr (hrows _ he)

/-- What a command that raises leaves of the state it started from (R241). -/
theorem raise_checkedState_spec (i : Instr) (e : ErrCode) (s : State) :
    SameButStatus s (raise e (checkedState i s)) ∧
      RaisedStatus s (raise e (checkedState i s))
        (if i = .sample ∨ i = .render then false else Status.miss s.status) e.code := by
  by_cases hi : i = .sample ∨ i = .render
  · rw [checkedState, if_pos hi, if_pos hi]
    exact (raise_setMiss_spec s e).symm
  · rw [checkedState, if_neg hi, if_neg hi]
    exact (raise_spec s e).symm

/-- Settles O12: with ERR ≠ 0 the command did not complete, so it raised. -/
theorem failedCommandChangesStatusOnly : Obligations.FailedCommandChangesStatusOnly := by
  intro i s t h hne
  rcases (exec_move h).completes_or_raises with h0 | ⟨e, _, rfl⟩
  · exact absurd h0 hne
  · rw [err_raise]
    exact raise_checkedState_spec i e s

/-! ### The sticky flag over a run (R251) -/

/-- A host write of a register other than CMD leaves STATUS: it is RO (R23, R49). -/
theorem status_storeReg (s : State) (name : Reg) (v : Word) : (storeReg s name v).status = s.status := by
  cases name <;> rfl

/-- An operation but a release of reset leaves a recorded error recorded. -/
theorem HostMove.esticky_kept {op : HostOp} (hm : HostMove s op t) (hr : op ≠ .releaseReset)
    (h : Status.esticky s.status = true) : Status.esticky t.status = true := by
  cases hm with
  | command w i t _ he =>
    obtain ⟨hsticky, -⟩ := commandFrameOfEveryCommand i s t he
    rw [hsticky, h, Bool.true_or]
  | illegal => simp
  | store => rwa [status_storeReg]
  | release => exact absurd rfl hr
  | _ => exact h

/-- The same of a step. -/
theorem step_esticky_kept (hstep : step s = .next t) (hr : s.ops.head? ≠ some .releaseReset)
    (h : Status.esticky s.status = true) : Status.esticky t.status = true := by
  rcases step_move hstep with ⟨_, rfl⟩ | ⟨op, rest, ho, hm⟩
  · exact h
  · exact hm.esticky_kept (by rintro rfl; exact hr (by rw [ho, List.head?_cons])) h

/-- No operation touches the operations pending after it. -/
theorem HostMove.ops_eq {op : HostOp} (hm : HostMove s op t) : t.ops = s.ops := by
  cases hm with
  | command w i t _ he =>
    obtain ⟨-, -, -, -, hops, -⟩ := commandFrameOfEveryCommand i s t he
    exact hops
  | store _ v name =>
    obtain ⟨-, -, -, -, -, -, hops, -⟩ := storeReg_frame s name v
    exact hops
  | release => unfold releaseReset; split <;> rfl
  | _ => rfl

/-- A step takes the first pending operation off and leaves the others. -/
theorem step_ops (hstep : step s = .next t) : t.ops = s.ops.tail := by
  rcases step_move hstep with ⟨ho, rfl⟩ | ⟨op, rest, ho, hm⟩
  · rw [ho, List.tail_nil]
  · rw [hm.ops_eq, ho, List.tail_cons, nextOp_ops]

/-- What every step keeps, a run keeps. -/
theorem stepN_keeps {P : State → Prop} (hstep : ∀ s t, P s → step s = .next t → P t) {k : Nat} (h : P s)
    (hrun : stepN k s = .next t) : P t := by
  induction k generalizing s with
  | zero => cases hrun; exact h
  | succ k ih =>
    rw [stepN] at hrun
    split at hrun
    · next hs => exact ih (hstep _ _ h hs) hrun
    · cases hrun
    · cases hrun

theorem step_keeps_noRelease (h : HostOp.releaseReset ∉ s.ops) (hstep : step s = .next t) :
    HostOp.releaseReset ∉ t.ops := by
  rw [step_ops hstep]
  exact fun hmem => h (List.mem_of_mem_tail hmem)

/-- A run without a release of reset that ends with no error recorded started with none. -/
theorem noErrorRecorded_of_stepN {k : Nat} (hr : HostOp.releaseReset ∉ s.ops) (hrun : stepN k s = .next t)
    (ht : t.noErrorRecorded) : s.noErrorRecorded := by
  refine Bool.eq_false_iff.2 fun hs => Bool.eq_false_iff.1 ht ?_
  have hkept := stepN_keeps (P := fun u => HostOp.releaseReset ∉ u.ops ∧ Status.esticky u.status = true)
    (fun _ _ h hstep => ⟨step_keeps_noRelease h.1 hstep,
      step_esticky_kept hstep (fun hhead => h.1 (List.mem_of_head? hhead)) h.2⟩) ⟨hr, hs⟩ hrun
  exact hkept.2

theorem err_eq_zero_of_noErrorRecorded (hinv : s.Inv) (h : s.noErrorRecorded) : Status.err s.status = 0 :=
  by_contra fun hne => Bool.eq_false_iff.1 h (hinv.errSticky hne)

/-- The state after `j` steps of a run of `k` starts a run of the `k - j` left. -/
theorem stepN_rest {j k : Nat} {u : State} (hj : j ≤ k) (hu : stepN j s = .next u) (hrun : stepN k s = .next t) :
    stepN (k - j) u = .next t := by
  rw [← stepN_add _ hu, Nat.add_sub_cancel' hj, hrun]

/-- Settles O15: the rest of the run from any state on the way shows that no error was recorded there, and then the
invariant has ERR = 0. -/
theorem noErrorRecordedMeansNoneFailed : Obligations.NoErrorRecordedMeansNoneFailed := by
  intro k s t hinv hr hrun ht
  have honWay : ∀ j u, j ≤ k → stepN j s = .next u → Status.err u.status = 0 := by
    intro j u hj hu
    have hru := stepN_keeps (P := fun u => HostOp.releaseReset ∉ u.ops) (fun _ _ => step_keeps_noRelease) hr hu
    exact err_eq_zero_of_noErrorRecorded (stepN_keeps stepKeepsInvariant hinv hu)
      (noErrorRecorded_of_stepN hru (stepN_rest hj hu hrun) ht)
  exact ⟨noErrorRecorded_of_stepN hr hrun ht, honWay k t le_rfl hrun, honWay⟩

/-- Settles O10: with no operation pending `step` takes its idle branch. -/
theorem idleStepChangesNothing : Obligations.IdleStepChangesNothing := by
  intro s ho
  rw [step, ho]

/-! ### Each command's own errors -/

/-- Settles O28, by the way DECMAP ends under each clause's conditions. -/
theorem decmapErrors : Obligations.DecmapErrors := fun s =>
  ⟨fun hc => ⟨_, exec_decmap_badConfig hc, raise_spec s .badConfig⟩,
    fun hc hl => ⟨_, exec_decmap_tooSmall hc hl, raise_spec s .tooSmall⟩,
    fun hc hl => ⟨_, exec_decmap_runs hc hl, err_complete _⟩⟩

/-- A buffer too short for the byte layout is no word layout either (R243). -/
theorem ne_wordLayout_of_lt {len n : Nat} (h : len < n * n) : len ≠ 4 + 2 * n * n := by
  rw [Nat.mul_assoc]
  omega

/-- Settles O31, by the way DECATT ends under each clause's conditions. -/
theorem decattErrors : Obligations.DecattErrors := by
  intro s
  refine ⟨fun hc => ⟨_, exec_decatt_badConfig hc, raise_spec s .badConfig⟩, fun hc hl => ?neither, fun hc hl => ?fits⟩
  case neither =>
    have hw := ne_wordLayout_of_lt hl
    exact ⟨hw, _, exec_decatt_badAttLayout hc hw hl, raise_spec s .badAttLayout⟩
  case fits =>
    by_cases hw : s.len.toNat = 4 + 2 * s.n.toNat * s.n.toNat
    · exact ⟨_, exec_decatt_wordLayout hc hw, err_complete _⟩
    · exact ⟨_, exec_decatt_byteLayout hc hw (hl.resolve_left hw), err_complete _⟩

/-- Settles O34: SAMPLE raises after it clears MISS. -/
theorem sampleBadConfig : Obligations.SampleBadConfig :=
  fun s hc => ⟨_, exec_sample_badConfig hc, raise_setMiss_spec s .badConfig⟩

/-- Settles O42, by the way RENDER ends under each clause's conditions. -/
theorem renderErrors : Obligations.RenderErrors := fun s =>
  ⟨fun hc => ⟨_, exec_render_badConfig hc, raise_setMiss_spec s .badConfig⟩,
    fun hc hg => ⟨_, exec_render_noGrid hc hg, raise_setMiss_spec s .noGrid⟩,
    fun hc hg => ⟨_, exec_render_runs hc hg, err_complete _⟩⟩

end Sys2Proof.Machine
end

section
/-! Reset: the values it leaves, what the reset input holds back, and the flags that only its release clears (R23, R270,
R271). -/
namespace Sys2Proof.Machine

variable {s t : State}

/-! ### The flags that only a release of reset clears (R23, R251) -/

/-- TG_VALID and AG_VALID are 1 in `t` where they are 1 in `s`. -/
structure GridFlagsKept (s t : State) : Prop where
  tgValid : Status.tgValid s.status = true → Status.tgValid t.status = true
  agValid : Status.agValid s.status = true → Status.agValid t.status = true

/-- DECMAP sets TG_VALID and DECATT sets AG_VALID; no command writes these flags otherwise. -/
theorem CommandMove.gridFlagsKept {i : Instr} (h : CommandMove s i t) : GridFlagsKept s t := by
  cases h with
  | decmap => exact ⟨fun _ => by simp [storeTerrain], fun h => by simpa [storeTerrain] using h⟩
  | decatt => exact ⟨fun h => by simpa [storeAttributes] using h, fun _ => by simp [storeAttributes]⟩
  | render => exact ⟨fun h => by simpa [renderFrame] using h, fun h => by simpa [renderFrame] using h⟩
  | _ => exact ⟨fun h => by simpa using h, fun h => by simpa using h⟩

/-- An operation but a release of reset leaves the valid flags set. -/
theorem HostMove.gridFlagsKept {op : HostOp} (hm : HostMove s op t) (hr : op ≠ .releaseReset) :
    GridFlagsKept s t := by
  cases hm with
  | command _ _ _ _ he => exact (exec_move he).gridFlagsKept
  | illegal => exact ⟨fun h => by simpa using h, fun h => by simpa using h⟩
  | store => exact ⟨fun h => by rwa [status_storeReg], fun h => by rwa [status_storeReg]⟩
  | release => exact absurd rfl hr
  | _ => exact ⟨id, id⟩

/-- The same of a step. -/
theorem step_gridFlagsKept (hstep : step s = .next t) (hr : s.ops.head? ≠ some .releaseReset) :
    GridFlagsKept s t := by
  rcases step_move hstep with ⟨_, rfl⟩ | ⟨op, rest, ho, hm⟩
  · exact ⟨id, id⟩
  · rw [ho, List.head?_cons] at hr
    exact { hm.gridFlagsKept (fun hop => hr (congrArg some hop)) with }

/-- Settles O14: an error stays recorded, and a grid that was decoded stays valid. -/
theorem onlyResetClearsStickyFlags : Obligations.OnlyResetClearsStickyFlags := fun _ _ hstep hr =>
  have hgrids := step_gridFlagsKept hstep hr
  ⟨step_esticky_kept hstep hr, hgrids.tgValid, hgrids.agValid⟩

/-! ### The state after reset (R271) -/

theorem toNat_readReg_reset (name : Reg) : (readReg State.reset name).toNat = resetValue name := by
  cases name with
  | wmask k => simp [readReg, State.reset, resetValue]
  | _ => rfl

/-- With TG_N and AG_N at 0 no cell of a grid is valid, so each reads as a free value (R43). -/
theorem tgRead_reset (i : Nat) : tgRead State.reset i = Config.unspecCell State.reset.draws i :=
  if_neg (Nat.not_lt_zero i)

theorem agRead_reset (i : Nat) : agRead State.reset i = Config.unspecAttr State.reset.draws i :=
  if_neg (Nat.not_lt_zero i)

/-- Settles O1: the registers one by one, no grid has a valid cell, and BUF and FB list nothing. -/
theorem resetLeavesSpecValues : Obligations.ResetLeavesSpecValues :=
  ⟨toNat_readReg_reset, rfl, rfl, fun _ => rfl, tgRead_reset, agRead_reset, fun _ _ => rfl⟩

/-- Settles O2, by the base case of the invariant that every step keeps. -/
theorem resetMeetsInvariant : Obligations.ResetMeetsInvariant := inv_reset

/-! ### The reset input (R270) -/

theorem setInReset_of_eq {b : Bool} (h : s.inReset = b) : s.setInReset b = s := by
  subst h; rfl

/-- While reset is asserted, only its release and the environment's texture moves change anything. -/
theorem hostStep_held {op : HostOp} (hr : s.inReset = true) (hrel : op ≠ .releaseReset)
    (hload : ∀ tile asset, op ≠ .texLoad tile asset) (hunload : ∀ tile, op ≠ .texUnload tile) :
    hostStep op s = .next s := by
  cases op with
  | wr | rd | bufW | bufR | tgR | agR | fbR => exact portOp_held hr _
  | texLoad tile asset => exact absurd rfl (hload tile asset)
  | texUnload tile => exact absurd rfl (hunload tile)
  | assertReset => exact congrArg Host.Outcome.next (setInReset_of_eq hr)
  | releaseReset => exact absurd rfl hrel

/-- A release after an assertion leaves the state of R271, and what is not SXD's as it was. -/
theorem releaseReset_of_held (hr : s.inReset = true) :
    releaseReset s = { State.reset with tex := s.tex, ops := s.ops, replies := s.replies, draws := s.draws } :=
  if_pos hr

theorem readReg_releaseReset (hr : s.inReset = true) (name : Reg) :
    readReg (releaseReset s) name = readReg State.reset name := by
  rw [releaseReset_of_held hr]
  cases name <;> rfl

/-- Settles O4, by what an operation does while reset is asserted, what its release leaves, and what an assertion is. -/
theorem resetInputHoldsAndReleases : Obligations.ResetInputHoldsAndReleases := by
  refine ⟨fun s rest op hr ho => ⟨fun t ⟨hrel, hload, hunload⟩ hstep => ?held, ?release⟩,
    fun s rest hr ho => step_cons ho⟩
  case held =>
    rw [step_cons ho, hostStep_held (s := s.nextOp rest) hr hrel hload hunload] at hstep
    exact (Host.Outcome.next.inj hstep).symm
  case release =>
    rintro rfl
    have hreg := readReg_releaseReset (s := s.nextOp rest) hr
    have hstate := releaseReset_of_held (s := s.nextOp rest) hr
    refine ⟨releaseReset (s.nextOp rest), step_cons ho, fun name => by rw [hreg, toNat_readReg_reset], ?_⟩
    rw [hstate]
    exact ⟨rfl, rfl, rfl, rfl, rfl, rfl, rfl⟩

end Sys2Proof.Machine
end
